-- ==== Sys2Proof/Word.lean ====
section
/-! DEFINITION. The words of the ColorNode pulse encoder (widths: 00_scope R6, 30_encoding R45 to R52) and the
plain operand types that are no instruction of their own. -/

namespace Sys2Proof

/-- The 8-bit position operand, compared with `LIGHT_COUNT`; its low six bits are the bulb address (R6, D6). -/
abbrev Pos := BitVec 8

/-- The 8-bit intensity operand; its meaning is the bulb's (R54). -/
abbrev Intensity := BitVec 8

/-- The packed 12-bit colour operand (R48). -/
abbrev Color := BitVec 12

/-- A 26-bit wire frame, format W26; bit 25 is sent first (R46). -/
abbrev FrameBits := BitVec 26

/-- A 32-bit command word, format C32 (R50). -/
abbrev CommandWord := BitVec 32

/-- A 10-bit response, format RSP: `{rsp_code[1:0], rsp_data[7:0]}` (R45, R52). -/
abbrev RspBits := BitVec 10

/-- The three outcome codes a response can carry; code 3 is never produced (R52, R127). -/
inductive RspCode where
  /-- 0: the command completed (CN's true). -/
  | done
  /-- 1: `pos >= LIGHT_COUNT` in the guarded command (CN's false). -/
  | outOfRange
  /-- 2: the command word matches no row of the opcode map. -/
  | illegal
deriving DecidableEq, Repr

/-- The phase `PH` of the frame in flight (R11); the codes 5 to 7 are left out of the type, as R72 allows. -/
inductive Phase where
  /-- IDLE = 0: the line is LOW and the command port is ready. -/
  | idle
  /-- START = 1: the start pulse. -/
  | start
  /-- BITLOW = 2: the LOW part of a bit cell. -/
  | bitLow
  /-- BITHIGH = 3: the HIGH part of a bit cell. -/
  | bitHigh
  /-- END = 4: the quiet period. -/
  | quiet
deriving DecidableEq, Repr

/-- The caller-supplied function `index -> color` of `fillSequence` (R101) as plain data: the value at each listed
index, and the value at every other one. Every total function agrees with such a table on the indices one call
reads (log 19). -/
structure ColorTable where
  /-- Pairs of an index and the colour there; the first pair of an index counts. -/
  entries : List (Nat × Color)
  /-- The colour at an index that is not listed. -/
  other : Color
deriving DecidableEq, Repr

/-- The caller-supplied function `index -> (color, intensity)` of `fillSequence` (R101) as plain data (log 19). -/
structure ColorIntensityTable where
  /-- Pairs of an index and what the function gives there; the first pair of an index counts. -/
  entries : List (Nat × Color × Intensity)
  /-- What the function gives at an index that is not listed. -/
  other : Color × Intensity
deriving DecidableEq, Repr

/-- The two shapes of the whole-string `fillSequence` (R95): one per function shape (D21). -/
inductive SequenceForm where
  /-- `fillSequence(sequence, spanSize, intensity, f)`. -/
  | colorOnly (intensity : Intensity) (f : ColorTable)
  /-- `fillSequence(sequence, spanSize, g)`. -/
  | colorIntensity (g : ColorIntensityTable)
deriving DecidableEq, Repr

end Sys2Proof
end

