-- ==== Sys2Proof/Config.lean ====
section
/-! DEFINITION. What an instance of the block fixes (00_scope R5, 10_state R13) and the values the spec leaves free. -/

namespace Sys2Proof

/-- The record `TimingConfig`: the six pulse widths in microseconds, fixed at construction (R13, D3). -/
structure TimingConfig where
  /-- `T_START_HIGH`: the frame-start HIGH hold. -/
  startHigh : BitVec 16
  /-- `T_ONE_LOW`: the LOW hold of a one. -/
  oneLow : BitVec 16
  /-- `T_ONE_HIGH`: the HIGH hold of a one. -/
  oneHigh : BitVec 16
  /-- `T_ZERO_LOW`: the LOW hold of a zero. -/
  zeroLow : BitVec 16
  /-- `T_ZERO_HIGH`: the HIGH hold of a zero. -/
  zeroHigh : BitVec 16
  /-- `T_END_LOW`: the quiet period at the end of a frame. -/
  endLow : BitVec 16
deriving DecidableEq, Repr

/-- The defaults of CN's primitive table (R13, R146). -/
def TimingConfig.default : TimingConfig :=
  { startHigh := 10, oneLow := 20, oneHigh := 10, zeroLow := 10, zeroHigh := 20, endLow := 30 }

/-- Which nibble of the packed colour holds which channel, named from the lowest nibble up (R5 `CHANNEL_ORDER`, D17). -/
inductive ChannelOrder where
  | rgb | rbg | grb | gbr | brg | bgr
deriving DecidableEq, Repr

/-- The instance parameters of R5 that are no register of R13. They are fixed at construction. -/
structure InstanceParams where
  /-- `K` (`TICKS_PER_US`): clock cycles per microsecond (D1). -/
  ticksPerUs : Nat
  /-- `MAX_INTENSITY`, used by `enumerate` (D16). -/
  maxIntensity : Intensity
  /-- `CHANNEL_ORDER` (D17). -/
  channelOrder : ChannelOrder
  /-- `COLOR_ORANGE`, OPEN (D19). -/
  colorOrange : Color
  /-- `COLOR_INDIGO`, OPEN (D19). -/
  colorIndigo : Color
  /-- `COLOR_VIOLET`, OPEN (D19). -/
  colorViolet : Color
  /-- `FADE_TRAILING_SLEEP`: whether a fade sleeps after its last frame (D24). -/
  fadeTrailingSleep : Bool
  /-- `TOL`, in whole microseconds: how far a pulse may deviate from its nominal width (R70, R155, D2; log 22). The
  block's own pulses are nominal, so only `Segment.inTol` reads it. -/
  tol : Nat
deriving DecidableEq, Repr

namespace Config

/-- `COLOR_ORANGE` of the default instance: the spec gives no value (R117, U12), so this has none (log 3). -/
opaque orange : Color

/-- `COLOR_INDIGO` of the default instance (log 3). -/
opaque indigo : Color

/-- `COLOR_VIOLET` of the default instance (log 3). -/
opaque violet : Color

/-- FREE VALUE: the draw number `n` of the host's random source, any unsigned integer (R92, U15; log 9). -/
opaque draw : Nat → Nat

/-- FREE VALUE: how many cycles more than it must the host waits before it presents the next `SET_COLOR` of a
bulk operation (R90, D25, U22; log 7). -/
opaque hostGap : Nat → Nat

/-- FREE VALUE: the level of the line in a cycle in which the block does not drive it (R15, U9; log 11). -/
opaque undrivenLevel : Nat → Bool

end Config

/-- The defaults of R5; the three OPEN colours are the opaque constants above. -/
def InstanceParams.default : InstanceParams :=
  { ticksPerUs := 1, maxIntensity := 255, channelOrder := .rgb, colorOrange := Config.orange,
    colorIndigo := Config.indigo, colorViolet := Config.violet, fadeTrailingSleep := true, tol := 0 }

end Sys2Proof
end

