-- ==== Sys2Proof/Syntax.lean ====
section
/-! DEFINITION. The instructions: one constructor per row of spec/opcode_table.json. -/

namespace Sys2Proof

/-- The 27 rows of the opcode table, in the table's order. Operands the spec calls ignored or leaves as `x` in a
reserved word are kept as data, so that a word is never forgotten by decoding (log 14). -/
inductive Instr where
  /-- C32, op 1 (R76). -/
  | setColor (pos : Pos) (intensity : Intensity) (color : Color)
  /-- C32, op 2 (R77). -/
  | setColorIfInRange (pos : Pos) (intensity : Intensity) (color : Color)
  /-- C32, op 3; bits 27:0 are ignored, any value is legal (R53, R78). -/
  | getLightCount (ignored : BitVec 28)
  /-- C32, op 0: reserved, illegal (R53). -/
  | reservedOp0 (bits : BitVec 28)
  /-- C32, op 4: reserved, illegal (R53). -/
  | reservedOp4 (bits : BitVec 28)
  /-- C32, op 5: reserved, illegal (R53). -/
  | reservedOp5 (bits : BitVec 28)
  /-- C32, op 6: reserved, illegal (R53). -/
  | reservedOp6 (bits : BitVec 28)
  /-- C32, op 7: reserved, illegal (R53). -/
  | reservedOp7 (bits : BitVec 28)
  /-- C32, bit 31 set, whatever the opcode: illegal (R51, R53). -/
  | reservedRsv1 (bits : BitVec 31)
  /-- W26: one whole wire frame (R46, R49). -/
  | frame (address : BitVec 6) (intensity : Intensity) (color : Color)
  /-- Wire symbol `S`, private (R65). -/
  | frameStart
  /-- Wire symbol `1`, private (R66). -/
  | logicOne
  /-- Wire symbol `0`, private (R67). -/
  | logicZero
  /-- Wire symbol `E`, private (R68). -/
  | frameEnd
  /-- PSEUDO (R91). -/
  | fillRange (start count : BitVec 8) (intensity : Intensity) (color : Color)
  /-- PSEUDO (R92). -/
  | fillRandom (start count : BitVec 8) (intensity : Intensity)
  /-- PSEUDO, colour-only form (R93). -/
  | fillSequenceColor (start count : BitVec 8) (sequence : BitVec 16) (spanSize : BitVec 8) (intensity : Intensity) (f : ColorTable)
  /-- PSEUDO, colour-and-intensity form (R94). -/
  | fillSequenceColorIntensity (start count : BitVec 8) (sequence : BitVec 16) (spanSize : BitVec 8) (g : ColorIntensityTable)
  /-- PSEUDO, whole-string overloads, one per function shape (R95; log 20). -/
  | fillSequenceWholeString (sequence : BitVec 16) (spanSize : BitVec 8) (form : SequenceForm)
  /-- PSEUDO (R96). -/
  | enumerate (reverse : Bool)
  /-- PSEUDO (R97). -/
  | fadeIn (delayMs : BitVec 16)
  /-- PSEUDO (R98). -/
  | fadeOut (delayMs : BitVec 16)
  /-- FUNCTION (R110); the caller may pass a channel above 15, which is refused (R111). -/
  | color (r g b : Nat)
  /-- FUNCTION (R112). -/
  | colorHue (h : BitVec 8)
  /-- FUNCTION (R115); the index is a natural (R121). -/
  | rainbowColor (index : Nat)
  /-- FUNCTION (R116); the index is a natural (R121). -/
  | maxColor (index : Nat)
  /-- RSP: one response (R52, R81). -/
  | rsp (code : RspCode) (data : BitVec 8)
deriving DecidableEq, Repr

end Sys2Proof
end

