-- ==== Sys2Proof/WellFormed.lean ====
section
/-! DEFINITION. Operand checks: the domains the spec gives the operands (70_reset R150.6), and the legal
configurations of an instance. -/

namespace Sys2Proof

/-- The largest value of a colour channel, `CHANNEL_MAX` (R59). -/
def channelMax : Nat := 15

/-- A hue has a colour only below this (R114). -/
def hueLimit : Nat := 96

/-- The operand domains of R150.6: channels 0 to 15 (R111), hues 0 to 95 (R114), `spanSize` at least 1 (R93).
Every other operand takes every value of its width. -/
def Instr.wellFormed : Instr → Bool
  | .setColor _ _ _ => true
  | .setColorIfInRange _ _ _ => true
  | .getLightCount _ => true
  | .reservedOp0 _ => true
  | .reservedOp4 _ => true
  | .reservedOp5 _ => true
  | .reservedOp6 _ => true
  | .reservedOp7 _ => true
  | .reservedRsv1 _ => true
  | .frame _ _ _ => true
  | .frameStart => true
  | .logicOne => true
  | .logicZero => true
  | .frameEnd => true
  | .fillRange _ _ _ _ => true
  | .fillRandom _ _ _ => true
  | .fillSequenceColor _ _ _ spanSize _ _ => decide (spanSize ≠ 0)
  | .fillSequenceColorIntensity _ _ _ spanSize _ => decide (spanSize ≠ 0)
  | .fillSequenceWholeString _ spanSize _ => decide (spanSize ≠ 0)
  | .enumerate _ => true
  | .fadeIn _ => true
  | .fadeOut _ => true
  | .color r g b => decide (r ≤ channelMax) && decide (g ≤ channelMax) && decide (b ≤ channelMax)
  | .colorHue h => decide (h.toNat < hueLimit)
  | .rainbowColor _ => true
  | .maxColor _ => true
  | .rsp _ _ => true

/-- A `TimingConfig` with a field equal to 0 is not legal (R14). -/
def TimingConfig.legal (t : TimingConfig) : Bool :=
  decide (t.startHigh ≠ 0) && decide (t.oneLow ≠ 0) && decide (t.oneHigh ≠ 0) &&
  decide (t.zeroLow ≠ 0) && decide (t.zeroHigh ≠ 0) && decide (t.endLow ≠ 0)

/-- `K` is an integer of at least 1 (R5, D1). -/
def InstanceParams.legal (p : InstanceParams) : Bool := decide (1 ≤ p.ticksPerUs)

end Sys2Proof
end

