-- ==== Sys2Proof/Decode.lean ====
section
/-! DEFINITION. Decoding and encoding of the four encoded forms of 30_encoding: the command word C32, the wire
frame W26, the response RSP and the wire symbols in slot form (R45 to R52, R60). A bulk operation and a colour
function have no encoding of their own (42_bulk, 43_color, the template lines). -/

namespace Sys2Proof

/-- One encoded form. A slot string is written first-sent slot first, `true` for a HIGH slot of 10 µs (R60). -/
inductive Code where
  | c32 (w : CommandWord)
  | w26 (f : FrameBits)
  | rsp (r : RspBits)
  | slots (l : List Bool)
deriving DecidableEq, Repr

/-- Why a decoder refuses. -/
inductive DecodeReject where
  /-- Response code 3 is never produced (R52); that it is rejected is the model's choice (log 36). -/
  | rspCodeThree
  /-- The slots begin no wire symbol of R60. -/
  | notASymbol
  /-- Slots are left over after one symbol. -/
  | slotsLeftOver
deriving DecidableEq, Repr

/-- The decoder of the command port (R50, R51, R53). Total: every word is a row of the opcode table. Bit 31 is
looked at before the opcode. -/
def decodeCommand (w : CommandWord) : Instr :=
  if w.getLsbD 31 then .reservedRsv1 (w.extractLsb' 0 31)
  else match (w.extractLsb' 28 3).toNat with
    | 0 => .reservedOp0 (w.extractLsb' 0 28)
    | 1 => .setColor (w.extractLsb' 20 8) (w.extractLsb' 12 8) (w.extractLsb' 0 12)
    | 2 => .setColorIfInRange (w.extractLsb' 20 8) (w.extractLsb' 12 8) (w.extractLsb' 0 12)
    | 3 => .getLightCount (w.extractLsb' 0 28)
    | 4 => .reservedOp4 (w.extractLsb' 0 28)
    | 5 => .reservedOp5 (w.extractLsb' 0 28)
    | 6 => .reservedOp6 (w.extractLsb' 0 28)
    | _ => .reservedOp7 (w.extractLsb' 0 28)

/-- The decoder of a wire frame (R46). No 26-bit pattern is illegal (R54). -/
def decodeFrame (f : FrameBits) : Instr :=
  .frame (f.extractLsb' 20 6) (f.extractLsb' 12 8) (f.extractLsb' 0 12)

/-- The decoder of a response (R52). DESIGN CHOICE (log 36) for the patterns R52 never produces: code 1 or 2 with data
other than 0 is read with its data, and code 3 is rejected by name. -/
def decodeRsp (r : RspBits) : Except DecodeReject Instr :=
  match (r.extractLsb' 8 2).toNat with
  | 0 => .ok (.rsp .done (r.extractLsb' 0 8))
  | 1 => .ok (.rsp .outOfRange (r.extractLsb' 0 8))
  | 2 => .ok (.rsp .illegal (r.extractLsb' 0 8))
  | _ => .error .rspCodeThree

/-- Takes one wire symbol off the front of a slot string (R60). The four slot forms are prefix-free. -/
def decodeSymbol : List Bool → Except DecodeReject (Instr × List Bool)
  | true :: rest => .ok (.frameStart, rest)
  | false :: false :: true :: rest => .ok (.logicOne, rest)
  | false :: true :: true :: rest => .ok (.logicZero, rest)
  | false :: false :: false :: rest => .ok (.frameEnd, rest)
  | _ => .error .notASymbol

/-- Decodes `n` wire symbols in a row. -/
def decodeSymbols : Nat → List Bool → Except DecodeReject (List Instr × List Bool)
  | 0, l => .ok ([], l)
  | n + 1, l =>
    match decodeSymbol l with
    | .error e => .error e
    | .ok (i, rest) =>
      match decodeSymbols n rest with
      | .error e => .error e
      | .ok (is, left) => .ok (i :: is, left)

/-- The decoder of an encoded form. -/
def decode : Code → Except DecodeReject Instr
  | .c32 w => .ok (decodeCommand w)
  | .w26 f => .ok (decodeFrame f)
  | .rsp r => decodeRsp r
  | .slots l =>
    match decodeSymbol l with
    | .ok (i, []) => .ok i
    | .ok (_, _ :: _) => .error .slotsLeftOver
    | .error e => .error e

/-- A command word from its fields: `rsv = 0`, `op`, `pos`, `intensity`, `color` (R50). -/
def commandWord (op : BitVec 3) (pos : Pos) (intensity : Intensity) (color : Color) : CommandWord :=
  0#1 ++ op ++ pos ++ intensity ++ color

/-- A command word from its opcode and its low 28 bits, for the rows that use no operand (R50, R51). -/
def operandlessWord (op : BitVec 3) (low : BitVec 28) : CommandWord :=
  0#1 ++ op ++ low

/-- The two bits of an outcome code (R52). -/
def rspCodeBits : RspCode → BitVec 2
  | .done => 0
  | .outOfRange => 1
  | .illegal => 2

/-- The word of a `SET_COLOR` (R51). -/
def setColorWord (pos : Pos) (intensity : Intensity) (color : Color) : CommandWord :=
  commandWord 1 pos intensity color

/-- The slot form of a bit cell at the default timing (R60). -/
def cellSlots (b : Bool) : List Bool := if b then [false, false, true] else [false, true, true]

/-- The encoder, from the same tables. `none` for the rows that have no encoding. -/
def encode : Instr → Option Code
  | .setColor p i c => some (.c32 (setColorWord p i c))
  | .setColorIfInRange p i c => some (.c32 (commandWord 2 p i c))
  | .getLightCount x => some (.c32 (operandlessWord 3 x))
  | .reservedOp0 x => some (.c32 (operandlessWord 0 x))
  | .reservedOp4 x => some (.c32 (operandlessWord 4 x))
  | .reservedOp5 x => some (.c32 (operandlessWord 5 x))
  | .reservedOp6 x => some (.c32 (operandlessWord 6 x))
  | .reservedOp7 x => some (.c32 (operandlessWord 7 x))
  | .reservedRsv1 x => some (.c32 (1#1 ++ x))
  | .frame a i c => some (.w26 (a ++ i ++ c))
  | .frameStart => some (.slots [true])
  | .logicOne => some (.slots (cellSlots true))
  | .logicZero => some (.slots (cellSlots false))
  | .frameEnd => some (.slots [false, false, false])
  | .fillRange _ _ _ _ => none
  | .fillRandom _ _ _ => none
  | .fillSequenceColor _ _ _ _ _ _ => none
  | .fillSequenceColorIntensity _ _ _ _ _ => none
  | .fillSequenceWholeString _ _ _ => none
  | .enumerate _ => none
  | .fadeIn _ => none
  | .fadeOut _ => none
  | .color _ _ _ => none
  | .colorHue _ => none
  | .rainbowColor _ => none
  | .maxColor _ => none
  | .rsp code data => some (.rsp (rspCodeBits code ++ data))

/-- One row of the opcode map of the command word: `word & mask = value` (R51). -/
structure OpcodeRow where
  /-- The match column. -/
  value : CommandWord
  /-- The mask column. -/
  mask : CommandWord
deriving DecidableEq, Repr

/-- The match and mask columns of R51 and spec/opcode_table.json, for the rows of format C32. -/
def opcodeRow : Instr → Option OpcodeRow
  | .setColor _ _ _ => some { value := 0x10000000, mask := 0xF0000000 }
  | .setColorIfInRange _ _ _ => some { value := 0x20000000, mask := 0xF0000000 }
  | .getLightCount _ => some { value := 0x30000000, mask := 0xF0000000 }
  | .reservedOp0 _ => some { value := 0x00000000, mask := 0xF0000000 }
  | .reservedOp4 _ => some { value := 0x40000000, mask := 0xF0000000 }
  | .reservedOp5 _ => some { value := 0x50000000, mask := 0xF0000000 }
  | .reservedOp6 _ => some { value := 0x60000000, mask := 0xF0000000 }
  | .reservedOp7 _ => some { value := 0x70000000, mask := 0xF0000000 }
  | .reservedRsv1 _ => some { value := 0x80000000, mask := 0x80000000 }
  | .frame _ _ _ => none
  | .frameStart => none
  | .logicOne => none
  | .logicZero => none
  | .frameEnd => none
  | .fillRange _ _ _ _ => none
  | .fillRandom _ _ _ => none
  | .fillSequenceColor _ _ _ _ _ _ => none
  | .fillSequenceColorIntensity _ _ _ _ _ => none
  | .fillSequenceWholeString _ _ _ => none
  | .enumerate _ => none
  | .fadeIn _ => none
  | .fadeOut _ => none
  | .color _ _ _ => none
  | .colorHue _ => none
  | .rainbowColor _ => none
  | .maxColor _ => none
  | .rsp _ _ => none

/-- A three-slot string written as a number, first-sent slot the most significant bit, as the table's `encoding`
column writes it. -/
def slotsOfNat (w : Nat) : List Bool := [w.testBit 2, w.testBit 1, w.testBit 0]

/-- Keeps an instruction the decoder gave, drops a rejection. -/
def acceptedInstr : Except DecodeReject Instr → Option Instr
  | .ok i => some i
  | .error _ => none

/-- The instruction in a table word (log 24): 32 bits are a command word; 8 bits (or 3) hold a three-slot wire
symbol, 1 bit the one-slot symbol; 26 bits are a wire frame and 16 bits (or 10) hold a response. -/
def decodeTableWord (nbits w : Nat) : Option Instr :=
  match nbits with
  | 32 => acceptedInstr (decode (.c32 (BitVec.ofNat 32 w)))
  | 26 => if w < 2 ^ 26 then acceptedInstr (decode (.w26 (BitVec.ofNat 26 w))) else none
  | 16 => if w < 2 ^ 10 then acceptedInstr (decode (.rsp (BitVec.ofNat 10 w))) else none
  | 10 => if w < 2 ^ 10 then acceptedInstr (decode (.rsp (BitVec.ofNat 10 w))) else none
  | 8 => if w < 8 then acceptedInstr (decode (.slots (slotsOfNat w))) else none
  | 3 => if w < 8 then acceptedInstr (decode (.slots (slotsOfNat w))) else none
  | 1 => if w = 1 then acceptedInstr (decode (.slots [true])) else none
  | _ => none

end Sys2Proof
end

