-- ==== Sys2Proof/Machine/State.lean ====
section
/-! DEFINITION. Everything the spec gives the machine, as plain data (10_state; INVENTORY.md lists each field). -/

namespace Sys2Proof.Machine

/-- The machine raises no fault: the block has no exception, trap or stuck state (R72, R125, R131), so there is no
constructor. -/
inductive Fault where
deriving DecidableEq, Repr

/-- Why the machine refuses. Every one is safe: nothing is proved about the run. -/
inductive Refusal where
  /-- No meaning written yet; raised by an arm of `exec` only. Safe. No arm raises it. -/
  | notModelled (mnemonic : String)
  /-- `color` with a channel above 15 (R111, U1); raised by the meaning of `color`. Safe. -/
  | channelOutOfRange
  /-- `colorHue(h)` with `h >= 96` (R114, U4); raised by the meaning of `colorHue`. Safe. -/
  | hueOutOfRange
  /-- `fillSequence` with `spanSize = 0` (R93, U6); raised by the meanings of the three `fillSequence` rows. Safe. -/
  | spanSizeZero
  /-- A wire primitive issued where the frame in flight does not stand at it (R36, R133): a caller cannot emit a
  lone start pulse, bit cell or quiet period; raised by the meanings of the four primitives. Safe. -/
  | primitiveOutOfPlace
  /-- The host calls a frame, a primitive or a response, none of which has an opcode or a caller syntax (R57,
  R133); raised by the step, never by a meaning. Safe. -/
  | privateToBlock
  /-- `create` with a `TimingConfig` field equal to 0 (R14, U20); raised by `create`. Safe. -/
  | illegalTiming
  /-- `create` with `K = 0` (R5, D1); raised by `create`. Safe. -/
  | illegalTickRate
deriving DecidableEq, Repr

/-- What the host does next (R8, R163; log 6). The oldest entry is looked at in each cycle in which the block is idle;
a reset at the front goes on in every cycle, the cycle in which the entry before it is used up included, so that `rst`
can be 1 in any cycle after cycle 0 (log 26). -/
inductive HostOp where
  /-- Present this word with `cmd_valid = 1` and hold it until it is accepted (R79, R163). -/
  | issue (w : CommandWord)
  /-- Present nothing for this many cycles of the idle block (a sleep or a gap: R90, R97; log 8). -/
  | pause (cycles : Nat)
  /-- Let `wait` more cycles pass, idle or not, then assert `rst` for `cycles` cycles, from the next one on (R22, R145,
  R158; log 26): `reset 0 1` behind a word makes `rst = 1` in the cycle after the word's acceptance. -/
  | reset (wait cycles : Nat)
  /-- Call an operation by name: a bulk operation, a colour function, a command (R57). -/
  | call (i : Instr)
deriving DecidableEq, Repr

/-- The machine in one clock cycle: the registers of 10_state R11, R13, R15, R16, the other instance parameters of
R5, the `rst` input, and the host (the MODEL's own fields `queue`, `retColor`, `freeIdx`; log 6, 18, 7). -/
structure State where
  /-- `PH` (R11). -/
  phase : Phase
  /-- `SR`: the bits of the frame not yet sent, next bit in bit 25 (R11). -/
  sr : BitVec 26
  /-- `BITCNT`: bits not yet completely sent (R11). -/
  bitcnt : BitVec 5
  /-- `TMR`: cycles left in the current phase, the current one included (R11; a Nat, log 4). -/
  tmr : Nat
  /-- `DOUT`: the level driven on the line, `true` for HIGH (R9, R15). -/
  dout : Bool
  /-- `DOUT_OE`: the line is configured as a digital output (R15). -/
  doutOe : Bool
  /-- `RSP_VALID` (R16). -/
  rspValid : Bool
  /-- `RSP_CODE` (R16). -/
  rspCode : BitVec 2
  /-- `RSP_DATA` (R16). -/
  rspData : BitVec 8
  /-- `RSP_OWED` (R16). -/
  rspOwed : Bool
  /-- `LIGHT_COUNT` (R13). -/
  lightCount : BitVec 8
  /-- `OUTPUT_LINE`, an opaque label (R13). -/
  outputLine : Nat
  /-- The six `T_*` registers (R13). -/
  timing : TimingConfig
  /-- The instance parameters that are no register (R5; log 2). -/
  inst : InstanceParams
  /-- In how many cycles, this one included, the input `rst` is still 1 (R22, R145); 0 when `rst = 0`. -/
  rstCycles : Nat
  /-- What the host does next, oldest first (log 6). -/
  queue : List HostOp
  /-- The value the last colour function gave the host (R119; log 18). -/
  retColor : Color
  /-- How many free values have been used (log 7). -/
  freeIdx : Nat
deriving DecidableEq, Repr

/-- Cycle 0 of an instance with these parameters (R23, R75, R145, R146): idle, LOW, driving, nothing answered. The
host has nothing to do yet. -/
def State.construct (outputLine : Nat) (lightCount : BitVec 8) (timing : TimingConfig) (inst : InstanceParams) : State :=
  { phase := .idle, sr := 0, bitcnt := 0, tmr := 0, dout := false, doutOe := true,
    rspValid := false, rspCode := 0, rspData := 0, rspOwed := false,
    lightCount := lightCount, outputLine := outputLine, timing := timing, inst := inst,
    rstCycles := 0, queue := [], retColor := 0, freeIdx := 0 }

/-- DESIGN CHOICE (log 1): the machine right after reset is the instance of R75's own example,
`create(line=7, lightCount=50)`, with the defaults of R5 and R13. -/
def State.reset : State :=
  State.construct 7 50 TimingConfig.default InstanceParams.default

end Sys2Proof.Machine
end

