-- ==== Sys2Proof/Machine/Flags.lean ====
section
/-! DEFINITION. The conditions and outputs of the block, recomputed every cycle, none of them stored (10_state R17,
R22). There is no condition-code register and no command has a flag side effect. -/

namespace Sys2Proof.Machine

/-- The code of `PH` (R11). -/
def phaseCode : Phase → BitVec 3
  | .idle => 0
  | .start => 1
  | .bitLow => 2
  | .bitHigh => 3
  | .quiet => 4

/-- The input `rst` in this cycle (R22). -/
def State.rst (s : State) : Bool := decide (s.rstCycles ≠ 0)

/-- The output `busy` (R17, R22). -/
def State.busy (s : State) : Bool := decide (s.phase ≠ .idle)

/-- The output `cmd_ready`: idle and not in reset (R22, D9). -/
def State.cmdReady (s : State) : Bool := !s.busy && !s.rst

/-- The command word of an operation called by name; none for an operation that is no command (R51, R57). -/
def commandWordOf (i : Instr) : Option CommandWord :=
  match encode i with
  | some (.c32 w) => some w
  | _ => none

/-- The word the host presents in this cycle, issued as a word or called by name; `none` is `cmd_valid = 0` (R22). -/
def State.cmdPort (s : State) : Option CommandWord :=
  match s.queue with
  | .issue w :: _ => some w
  | .call i :: _ => commandWordOf i
  | _ => none

/-- The response presented in this cycle, `none` when `rsp_valid = 0` (R16, R81). -/
def State.response (s : State) : Option (BitVec 2 × BitVec 8) :=
  if s.rspValid then some (s.rspCode, s.rspData) else none

/-- The level of the line in this cycle, `LINE(n)`: `DOUT` where the block drives it, a free value where it does not
(R15, U9; log 11). -/
def State.line (s : State) : Bool := if s.doutOe then s.dout else Config.undrivenLevel s.freeIdx

/-- The range test of the guarded command: `pos < LIGHT_COUNT`, both 8-bit unsigned (R77, D33). -/
def State.inRange (s : State) (pos : Pos) : Bool := decide (pos.toNat < s.lightCount.toNat)

end Sys2Proof.Machine
end

