-- ==== Sys2Proof/Machine/Operands.lean ====
section
/-! DEFINITION. The operand forms: the frame of a position, an intensity and a colour (30_encoding R47), hold lengths
in cycles (00_scope R6), the caller's functions (42_bulk R101) and the words of the bulk operations (R90, R99). -/

namespace Sys2Proof.Machine

/-- `Frame(a, i, c) = {a[5:0], i[7:0], c[11:0]}` (R47): bits 7:6 of the position are dropped (D7; log 13). -/
def frameOf (pos : Pos) (intensity : Intensity) (color : Color) : FrameBits :=
  pos.extractLsb' 0 6 ++ intensity ++ color

/-- The frame of a six-bit address (R46). -/
def frameBits (address : BitVec 6) (intensity : Intensity) (color : Color) : FrameBits :=
  address ++ intensity ++ color

/-- A hold of `us` microseconds in clock cycles, `K * us` (R6, R70). -/
def State.ticks (s : State) (us : BitVec 16) : Nat := s.inst.ticksPerUs * us.toNat

/-- `sel(b, T_ONE_LOW, T_ZERO_LOW)` (R72). -/
def lowUs (t : TimingConfig) (b : Bool) : BitVec 16 := if b then t.oneLow else t.zeroLow

/-- `sel(b, T_ONE_HIGH, T_ZERO_HIGH)` (R72). -/
def highUs (t : TimingConfig) (b : Bool) : BitVec 16 := if b then t.oneHigh else t.zeroHigh

/-- The value a table lists at an index, the first pair of an index counting. -/
def lookupEntry {α : Type} (other : α) : List (Nat × α) → Nat → α
  | [], _ => other
  | (k, v) :: rest, n => if n = k then v else lookupEntry other rest n

/-- The caller's function `f : index -> color` (R101). -/
def applyColorTable (f : ColorTable) (n : Nat) : Color := lookupEntry f.other f.entries n

/-- The caller's function `g : index -> (color, intensity)` (R101). -/
def applyColorIntensityTable (g : ColorIntensityTable) (n : Nat) : Color × Intensity := lookupEntry g.other g.entries n

/-- One move of a bulk operation: a `SET_COLOR`, or a host sleep in milliseconds (R90, R97). -/
inductive BulkOp where
  | send (pos : Pos) (intensity : Intensity) (color : Color)
  | sleep (ms : Nat)
deriving DecidableEq, Repr

/-- The position operand of the bulb at offset `k`: `begin + k`, a sum in the naturals of which only the low bits can
reach the wire (R99). -/
def bulbAt (start : BitVec 8) (k : Nat) : Pos := BitVec.ofNat 8 (start.toNat + k)

/-- The effective index of the bulb at offset `k`: `(sequence + k) / spanSize`, floor division in the naturals (R93,
R99; log 32). -/
def sequenceIndex (sequence : BitVec 16) (spanSize : BitVec 8) (k : Nat) : Nat :=
  (sequence.toNat + k) / spanSize.toNat

/-- `0, 1, ..., n-1`. -/
def ascending (n : Nat) : List Nat := List.range n

/-- `n-1, ..., 1, 0`. -/
def descending (n : Nat) : List Nat := (List.range n).reverse

end Sys2Proof.Machine
end

