-- ==== Sys2Proof/Machine/Ops.lean ====
section
/-! DEFINITION. The named operations over the registers (40_waveform R72, 41_frame R80, R81) and over the host's
queue. The block has no memory (R19, R30), takes no exception and returns from none (R125, R131, R132): the response
is its only report. -/

namespace Sys2Proof.Machine

/-- The outcome of one instruction or one step. -/
abbrev Out := Host.Outcome State Fault Refusal

/-- `x[RSP_VALID] <- 0`, the first line of R72: a response lasts one cycle (R81). -/
def State.clearRsp (s : State) : State := { s with rspValid := false }

/-- `respond(code, data)` (R81). -/
def State.respond (code : RspCode) (data : BitVec 8) (s : State) : State :=
  { s with rspValid := true, rspCode := rspCodeBits code, rspData := data }

/-- `Transmit(F)` at the register level, in the cycle of acceptance (R76, R80). -/
def State.startFrame (f : FrameBits) (s : State) : State :=
  { s with sr := f, bitcnt := 26, phase := .start, tmr := s.ticks s.timing.startHigh, dout := true, rspOwed := true }

/-- The effect of a command in the cycle it is presented: it is accepted where `cmd_ready = 1`; elsewhere it is
neither accepted nor remembered (R79, R80; log 15). -/
def atPort (s : State) (accepted : State) : Out := .next (if s.cmdReady then accepted else s)

/-- One cycle of a hold: the timer counts down, and in its last cycle the phase ends (R72). -/
def hold (s : State) (ended : State) : State := if s.tmr > 1 then { s with tmr := s.tmr - 1 } else ended

/-- Entry into the LOW part of a cell that sends `b` (R72, START and BITHIGH). -/
def State.enterLow (b : Bool) (s : State) : State :=
  { s with dout := false, phase := .bitLow, tmr := s.ticks (lowUs s.timing b) }

/-- Entry into the HIGH part of a cell that sends `b` (R72, BITLOW). -/
def State.enterHigh (b : Bool) (s : State) : State :=
  { s with dout := true, phase := .bitHigh, tmr := s.ticks (highUs s.timing b) }

/-- Entry into the quiet period (R72, BITHIGH with no bit left). -/
def State.enterQuiet (s : State) : State :=
  { s with dout := false, phase := .quiet, tmr := s.ticks s.timing.endLow }

/-- `SR <- {SR[24:0], 0}` and one bit less to send (R72, BITHIGH). -/
def State.shiftBit (s : State) : State := { s with sr := s.sr <<< 1, bitcnt := s.bitcnt - 1 }

/-- The end of a cell: shift, then the next cell by the bit that was `SR[24]`, or the quiet period after the last
bit (R72, BITHIGH). -/
def State.endCell (s : State) : State :=
  if s.bitcnt = 1 then s.shiftBit.enterQuiet else s.shiftBit.enterLow (s.sr.getLsbD 24)

/-- The end of a frame: idle, and the DONE it owed is presented (R72, END). -/
def State.endFrame (s : State) : State :=
  { s.respond .done 0 with phase := .idle, rspOwed := false }

/-- A clock edge with `rst = 1`: every register takes its reset value, the configuration stays (R145, R146, R161).
`DOUT_OE` is 0 while `rst` is still 1 afterwards and 1 from the release on (R15; log 10). The host and its queue are
not reset (log 26). -/
def State.resetEdge (s : State) : State :=
  { s with phase := .idle, sr := 0, bitcnt := 0, tmr := 0, dout := false, doutOe := decide (s.rstCycles ≤ 1),
           rspValid := false, rspCode := 0, rspData := 0, rspOwed := false,
           rstCycles := s.rstCycles - 1, freeIdx := s.freeIdx + 1 }

/-- The host raises `rst` from the next cycle on, for `n` cycles; the line is not driven while it is 1 (R15, R22). -/
def State.raiseRst (n : Nat) (s : State) : State :=
  { s with rstCycles := n, doutOe := s.doutOe && decide (n = 0) }

/-- The host's queue becomes this one. -/
def State.setQueue (q : List HostOp) (s : State) : State := { s with queue := q }

/-- The front of the queue is no reset. -/
def noResetNext : List HostOp → Bool
  | .reset _ _ :: _ => false
  | _ => true

/-- The last thing in every cycle with `rst = 0`: a reset at the front of the queue goes on, whatever the block does. It
waits, or `rst` is raised from the next cycle on (R22, R158; log 26). Everything else waits for the block. -/
def State.resetTick (s : State) : State :=
  match s.queue with
  | .reset 0 n :: rest => (s.setQueue rest).raiseRst n
  | .reset (k + 1) n :: rest => s.setQueue (.reset k n :: rest)
  | _ => s

/-- A cycle with `rst = 0` in which an instruction ran ends with the host's reset going on. -/
def thenResetTick (o : Out) : Out :=
  match o with
  | .next t => .next t.resetTick
  | .fault r => .fault r
  | .refused r => .refused r

/-- What is left of a pause after one of its cycles. -/
def pauseLeft (n : Nat) (rest : List HostOp) : List HostOp := if n ≤ 1 then rest else .pause (n - 1) :: rest

/-- A pause of `n` cycles as an entry of the queue; one of 0 cycles is none. -/
def pauseOps (n : Nat) : List HostOp := if n = 0 then [] else [.pause n]

/-- A bulk operation as host moves: each `SET_COLOR` after the next free gap (R90, D25; log 7), each sleep as
`ms * 1000` µs of idle cycles at least (R97; log 8). `n` is the number of the next free value. -/
def schedule (k : Nat) : Nat → List BulkOp → List HostOp
  | _, [] => []
  | n, .send p i c :: rest => pauseOps (Config.hostGap n) ++ .issue (setColorWord p i c) :: schedule k (n + 1) rest
  | n, .sleep ms :: rest => pauseOps (ms * 1000 * k) ++ schedule k n rest

/-- How many `SET_COLOR`s a bulk operation has. -/
def sendCount : List BulkOp → Nat
  | [] => 0
  | .send _ _ _ :: rest => sendCount rest + 1
  | .sleep _ :: rest => sendCount rest

/-- The host starts a bulk operation: its moves come before whatever the host does afterwards (R90). -/
def State.startBulk (ops : List BulkOp) (s : State) : State :=
  { s with queue := schedule s.inst.ticksPerUs s.freeIdx ops ++ s.queue, freeIdx := s.freeIdx + sendCount ops }

/-- The host takes `n` draws from its random source (R92; log 9). -/
def State.tookDraws (n : Nat) (s : State) : State := { s with freeIdx := s.freeIdx + n }

/-- A colour function gives its value to the host (R119; log 18). -/
def State.returnColor (c : Color) (s : State) : State := { s with retColor := c }

end Sys2Proof.Machine
end

