-- ==== Sys2Proof/Machine/Color.lean ====
section
/-! DEFINITION. The ColorModel functions (43_color R110 to R122): pure functions of the host that assemble the
colour operand. Executing one gives its value to the host and touches no register of the block (R119). -/

namespace Sys2Proof.Machine

/-- The nibbles of red, green and blue, counted from the lowest (R5 `CHANNEL_ORDER`, D17; log 29). -/
def nibbles : ChannelOrder → Nat × Nat × Nat
  | .rgb => (0, 1, 2)
  | .rbg => (0, 2, 1)
  | .grb => (1, 0, 2)
  | .gbr => (2, 0, 1)
  | .brg => (1, 2, 0)
  | .bgr => (2, 1, 0)

/-- `color(r, g, b)` inside its domain (R110): each channel in its nibble. -/
def packColor (o : ChannelOrder) (r g b : Nat) : Color :=
  let (nr, ng, nb) := nibbles o
  BitVec.ofNat 12 (r * 16 ^ nr + g * 16 ^ ng + b * 16 ^ nb)

/-- The channel in nibble `n` of a colour (R118). -/
def channelAt (c : Color) (n : Nat) : Nat := c.toNat / 16 ^ n % 16

/-- `red(c)` (R118). -/
def redOf (o : ChannelOrder) (c : Color) : Nat := channelAt c (nibbles o).1

/-- `green(c)` (R118). -/
def greenOf (o : ChannelOrder) (c : Color) : Nat := channelAt c (nibbles o).2.1

/-- `blue(c)` (R118). -/
def blueOf (o : ChannelOrder) (c : Color) : Nat := channelAt c (nibbles o).2.2

/-- A channel value is in range, 0 to `CHANNEL_MAX` (R111). -/
def channelOk (v : Nat) : Bool := decide (v ≤ channelMax)

/-- `color(r, g, b)` (R110); an input above 15 has no value: no clamping, no masking (R111). -/
def colorFn (o : ChannelOrder) (r g b : Nat) : Option Color :=
  if channelOk r && channelOk g && channelOk b then some (packColor o r g b) else none

/-- The hue sextant table (R113): sextant and place in it to (R, G, B). -/
def hueSextant (sextant loc : Nat) : Option (Nat × Nat × Nat) :=
  match sextant with
  | 0 => some (loc, channelMax, 0)
  | 1 => some (channelMax, channelMax - loc, 0)
  | 2 => some (channelMax, 0, loc)
  | 3 => some (channelMax - loc, 0, channelMax)
  | 4 => some (0, loc, channelMax)
  | 5 => some (0, channelMax, channelMax - loc)
  | _ => none

/-- `(R, G, B)` of a hue: `h >> 4` selects the sextant, `h & 0xF` the place in it (R112); `h >= 96` has none (R114). -/
def hueTriple (h : BitVec 8) : Option (Nat × Nat × Nat) := hueSextant (h >>> 4).toNat (h &&& 0xF).toNat

/-- `colorHue(h)` (R112, R114). -/
def colorHueFn (o : ChannelOrder) (h : BitVec 8) : Option Color :=
  match hueTriple h with
  | some (r, g, b) => colorFn o r g b
  | none => none

/-- Black, under every channel order (R117). -/
def black : Color := 0

/-- Red: fully saturated (R117). -/
def red (o : ChannelOrder) : Color := packColor o channelMax 0 0

/-- Green (R117). -/
def green (o : ChannelOrder) : Color := packColor o 0 channelMax 0

/-- Blue (R117). -/
def blue (o : ChannelOrder) : Color := packColor o 0 0 channelMax

/-- Cyan (R117). -/
def cyan (o : ChannelOrder) : Color := packColor o 0 channelMax channelMax

/-- Magenta (R117). -/
def magenta (o : ChannelOrder) : Color := packColor o channelMax 0 channelMax

/-- Yellow (R117). -/
def yellow (o : ChannelOrder) : Color := packColor o channelMax channelMax 0

/-- `rainbowColor(index)`: entry `index mod 7` of (red, orange, yellow, green, blue, indigo, violet) (R115, D20). -/
def rainbowColorFn (p : InstanceParams) (index : Nat) : Color :=
  match index % 7 with
  | 0 => red p.channelOrder
  | 1 => p.colorOrange
  | 2 => yellow p.channelOrder
  | 3 => green p.channelOrder
  | 4 => blue p.channelOrder
  | 5 => p.colorIndigo
  | _ => p.colorViolet

/-- `maxColor(index)`: entry `index mod 6` of (red, green, blue, cyan, magenta, yellow) (R116, D20). -/
def maxColorFn (o : ChannelOrder) (index : Nat) : Color :=
  match index % 6 with
  | 0 => red o
  | 1 => green o
  | 2 => blue o
  | 3 => cyan o
  | 4 => magenta o
  | _ => yellow o

/-- The host gets the function's value, or the call is refused by name where the spec gives none. -/
def giveColor (value : Option Color) (why : Refusal) (s : State) : Out :=
  match value with
  | some c => .next (s.returnColor c)
  | none => .refused why

/-- color (R110, R111). -/
def execColor (r g b : Nat) (s : State) : Out := giveColor (colorFn s.inst.channelOrder r g b) .channelOutOfRange s

/-- colorHue (R112, R114). -/
def execColorHue (h : BitVec 8) (s : State) : Out := giveColor (colorHueFn s.inst.channelOrder h) .hueOutOfRange s

/-- rainbowColor (R115). -/
def execRainbowColor (index : Nat) (s : State) : Out := .next (s.returnColor (rainbowColorFn s.inst index))

/-- maxColor (R116). -/
def execMaxColor (index : Nat) (s : State) : Out := .next (s.returnColor (maxColorFn s.inst.channelOrder index))

end Sys2Proof.Machine
end

