-- ==== Sys2Proof/Machine/Bulk.lean ====
section
/-! DEFINITION. The bulk operations (42_bulk R90 to R103): host-side expansions into `SET_COLOR` commands. Executing
one puts its moves at the front of the host's queue; the block cannot tell them from single commands (R90). None
compares an address with `LIGHT_COUNT` (R100). -/

namespace Sys2Proof.Machine

/-- `BROADCAST_ADDR`, the address both fades send to, whatever `LIGHT_COUNT` is (R59, R98). -/
def broadcastAddr : Pos := 63

/-- `fillRange` (R91): ascending, one intensity, one colour. -/
def fillRangeOps (start count : BitVec 8) (intensity : Intensity) (color : Color) : List BulkOp :=
  (ascending count.toNat).map fun k => .send (bulbAt start k) intensity color

/-- `fillRandom` (R92): ascending, the colour of bulb `k` is `maxColor` of draw `k`. -/
def fillRandomOps (o : ChannelOrder) (draws : Nat → Nat) (start count : BitVec 8) (intensity : Intensity) : List BulkOp :=
  (ascending count.toNat).map fun k => .send (bulbAt start k) intensity (maxColorFn o (draws k))

/-- `fillSequence`, colour-only form, for any function `f` (R93): descending. -/
def fillSequenceColorOps (start count : BitVec 8) (sequence : BitVec 16) (spanSize : BitVec 8) (intensity : Intensity)
    (f : Nat → Color) : List BulkOp :=
  (descending count.toNat).map fun k => .send (bulbAt start k) intensity (f (sequenceIndex sequence spanSize k))

/-- `fillSequence`, colour-and-intensity form, for any function `g` (R94): descending. -/
def fillSequenceColorIntensityOps (start count : BitVec 8) (sequence : BitVec 16) (spanSize : BitVec 8)
    (g : Nat → Color × Intensity) : List BulkOp :=
  (descending count.toNat).map fun k =>
    .send (bulbAt start k) (g (sequenceIndex sequence spanSize k)).2 (g (sequenceIndex sequence spanSize k)).1

/-- The whole-string forms: `begin = 0`, `count = LIGHT_COUNT` (R95). -/
def wholeStringOps (lightCount : BitVec 8) (sequence : BitVec 16) (spanSize : BitVec 8) : SequenceForm → List BulkOp
  | .colorOnly intensity f => fillSequenceColorOps 0 lightCount sequence spanSize intensity (applyColorTable f)
  | .colorIntensity g => fillSequenceColorIntensityOps 0 lightCount sequence spanSize (applyColorIntensityTable g)

/-- `enumerate` (R96): every bulb black at maximum intensity, up or down. -/
def enumerateOps (lightCount : BitVec 8) (maxIntensity : Intensity) (reverse : Bool) : List BulkOp :=
  (if reverse then descending lightCount.toNat else ascending lightCount.toNat).map fun a =>
    .send (bulbAt 0 a) maxIntensity black

/-- One step of a fade: the frame, then the sleep, which the last step has only with `FADE_TRAILING_SLEEP` (R97). -/
def fadeStep (trailing : Bool) (delayMs : BitVec 16) (last i : Nat) : List BulkOp :=
  .send broadcastAddr (BitVec.ofNat 8 i) black :: (if i ≠ last ∨ trailing then [.sleep delayMs.toNat] else [])

/-- `fadeIn` (R97): intensities 0 to 255. -/
def fadeInOps (trailing : Bool) (delayMs : BitVec 16) : List BulkOp := (ascending 256).flatMap (fadeStep trailing delayMs 255)

/-- `fadeOut` (R98): intensities 255 to 0. -/
def fadeOutOps (trailing : Bool) (delayMs : BitVec 16) : List BulkOp := (descending 256).flatMap (fadeStep trailing delayMs 0)

/-- `require spanSize >= 1` (R93): a `fillSequence` with a span of 0 is refused. -/
def requireSpan (spanSize : BitVec 8) (s : State) (ops : List BulkOp) : Out :=
  if spanSize = 0 then .refused .spanSizeZero else .next (s.startBulk ops)

/-- fillRange (R91). -/
def execFillRange (start count : BitVec 8) (intensity : Intensity) (color : Color) (s : State) : Out :=
  .next (s.startBulk (fillRangeOps start count intensity color))

/-- fillRandom (R92): the draws are the next `count` free values, one per bulb in ascending order. -/
def execFillRandom (start count : BitVec 8) (intensity : Intensity) (s : State) : Out :=
  .next ((s.tookDraws count.toNat).startBulk
    (fillRandomOps s.inst.channelOrder (fun k => Config.draw (s.freeIdx + k)) start count intensity))

/-- fillSequence, colour-only form (R93). -/
def execFillSequenceColor (start count : BitVec 8) (sequence : BitVec 16) (spanSize : BitVec 8) (intensity : Intensity)
    (f : ColorTable) (s : State) : Out :=
  requireSpan spanSize s (fillSequenceColorOps start count sequence spanSize intensity (applyColorTable f))

/-- fillSequence, colour-and-intensity form (R94). -/
def execFillSequenceColorIntensity (start count : BitVec 8) (sequence : BitVec 16) (spanSize : BitVec 8)
    (g : ColorIntensityTable) (s : State) : Out :=
  requireSpan spanSize s (fillSequenceColorIntensityOps start count sequence spanSize (applyColorIntensityTable g))

/-- fillSequence, whole string (R95). -/
def execFillSequenceWholeString (sequence : BitVec 16) (spanSize : BitVec 8) (form : SequenceForm) (s : State) : Out :=
  requireSpan spanSize s (wholeStringOps s.lightCount sequence spanSize form)

/-- enumerate (R96). -/
def execEnumerate (reverse : Bool) (s : State) : Out :=
  .next (s.startBulk (enumerateOps s.lightCount s.inst.maxIntensity reverse))

/-- fadeIn (R97). -/
def execFadeIn (delayMs : BitVec 16) (s : State) : Out :=
  .next (s.startBulk (fadeInOps s.inst.fadeTrailingSleep delayMs))

/-- fadeOut (R98). -/
def execFadeOut (delayMs : BitVec 16) (s : State) : Out :=
  .next (s.startBulk (fadeOutOps s.inst.fadeTrailingSleep delayMs))

end Sys2Proof.Machine
end

