-- ==== Sys2Proof/Machine/Command.lean ====
section
/-! DEFINITION. The command words (41_frame R76 to R82): the effect of each in the cycle it is presented. The checks
come in the order of R130: legality, range, transmission. -/

namespace Sys2Proof.Machine

/-- SET_COLOR: transmits its frame, checks nothing (R76). -/
def execSetColor (pos : Pos) (intensity : Intensity) (color : Color) (s : State) : Out :=
  atPort s (s.startFrame (frameOf pos intensity color))

/-- SET_COLOR_IF_IN_RANGE: answers OUT_OF_RANGE without touching the line where `pos >= LIGHT_COUNT`, else as
SET_COLOR (R77). -/
def execSetColorIfInRange (pos : Pos) (intensity : Intensity) (color : Color) (s : State) : Out :=
  atPort s (if s.inRange pos then s.startFrame (frameOf pos intensity color) else s.respond .outOfRange 0)

/-- GET_LIGHT_COUNT: answers the light count; bits 27:0 are ignored (R78). -/
def execGetLightCount (_ignored : BitVec 28) (s : State) : Out :=
  atPort s (s.respond .done s.lightCount)

/-- An illegal word is consumed and answered ILLEGAL, nothing else (R53, R82). -/
def illegalWord (s : State) : Out := atPort s (s.respond .illegal 0)

/-- Reserved opcode 0 (R53). -/
def execReservedOp0 (_bits : BitVec 28) (s : State) : Out := illegalWord s

/-- Reserved opcode 4 (R53). -/
def execReservedOp4 (_bits : BitVec 28) (s : State) : Out := illegalWord s

/-- Reserved opcode 5 (R53). -/
def execReservedOp5 (_bits : BitVec 28) (s : State) : Out := illegalWord s

/-- Reserved opcode 6 (R53). -/
def execReservedOp6 (_bits : BitVec 28) (s : State) : Out := illegalWord s

/-- Reserved opcode 7 (R53). -/
def execReservedOp7 (_bits : BitVec 28) (s : State) : Out := illegalWord s

/-- A word with bit 31 set, whatever its opcode (R51, R53). -/
def execReservedRsv1 (_bits : BitVec 31) (s : State) : Out := illegalWord s

end Sys2Proof.Machine
end

