-- ==== Sys2Proof/Machine/Primitive.lean ====
section
/-! DEFINITION. The four private primitives (40_waveform R65 to R68, R72). Executing one is ONE cycle of it, at the
place of the frame in flight where it stands (log 16). -/

namespace Sys2Proof.Machine

/-- One cycle of the bit cell that sends `b`: its LOW part, then its HIGH part, then the next cell or the quiet
period (R66, R67, R72). -/
def cellCycle (b : Bool) (s : State) : Out :=
  if s.sr.getLsbD 25 = b then
    match s.phase with
    | .bitLow => .next (hold s (s.enterHigh b))
    | .bitHigh => .next (hold s s.endCell)
    | _ => .refused .primitiveOutOfPlace
  else .refused .primitiveOutOfPlace

/-- FRAME_START: `drive 1; hold T_START_HIGH; drive 0` (R65). The `drive 1` and the load of the timer happen at
acceptance (R76); at the end of the hold the first cell begins (R72). -/
def execFrameStart (s : State) : Out :=
  match s.phase with
  | .start => .next (hold s (s.enterLow (s.sr.getLsbD 25)))
  | _ => .refused .primitiveOutOfPlace

/-- LOGIC_ONE: `drive 0; hold T_ONE_LOW; drive 1; hold T_ONE_HIGH; drive 0` (R66). -/
def execLogicOne (s : State) : Out := cellCycle true s

/-- LOGIC_ZERO: `drive 0; hold T_ZERO_LOW; drive 1; hold T_ZERO_HIGH; drive 0` (R67). -/
def execLogicZero (s : State) : Out := cellCycle false s

/-- FRAME_END: `drive 0; hold T_END_LOW` (R68); at its end the block is idle and answers (R72). -/
def execFrameEnd (s : State) : Out :=
  match s.phase with
  | .quiet => .next (hold s s.endFrame)
  | _ => .refused .primitiveOutOfPlace

end Sys2Proof.Machine
end

