-- ==== Sys2Proof/Machine/Wire.lean ====
section
/-! DEFINITION. The two rows that are data formats of the block: the wire frame W26 (30_encoding R46, R49) and the
response RSP (R52). Neither has an opcode (log 17). -/

namespace Sys2Proof.Machine

/-- FRAME: `Transmit(F)` of the frame with these fields (R6, R46, R76), where the block is ready for one (R79). -/
def execFrame (address : BitVec 6) (intensity : Intensity) (color : Color) (s : State) : Out :=
  atPort s (s.startFrame (frameBits address intensity color))

/-- RSP: `respond(code, data)` (R52, R81), for every code and data a response word can carry (log 36). -/
def execRsp (code : RspCode) (data : BitVec 8) (s : State) : Out := .next (s.respond code data)

end Sys2Proof.Machine
end

