-- ==== Sys2Proof/Machine/Dispatch.lean ====
section
/-! DEFINITION. One arm per row of the opcode table, each one call of its meaning. -/

namespace Sys2Proof.Machine

/-- What an instruction does in the clock cycle in which it runs. -/
def exec (i : Instr) (s : State) : Host.Outcome State Fault Refusal :=
  match i with
  | .setColor pos intensity color => Sys2Proof.Machine.execSetColor pos intensity color s
  | .setColorIfInRange pos intensity color => Sys2Proof.Machine.execSetColorIfInRange pos intensity color s
  | .getLightCount ignored => Sys2Proof.Machine.execGetLightCount ignored s
  | .reservedOp0 bits => Sys2Proof.Machine.execReservedOp0 bits s
  | .reservedOp4 bits => Sys2Proof.Machine.execReservedOp4 bits s
  | .reservedOp5 bits => Sys2Proof.Machine.execReservedOp5 bits s
  | .reservedOp6 bits => Sys2Proof.Machine.execReservedOp6 bits s
  | .reservedOp7 bits => Sys2Proof.Machine.execReservedOp7 bits s
  | .reservedRsv1 bits => Sys2Proof.Machine.execReservedRsv1 bits s
  | .frame address intensity color => Sys2Proof.Machine.execFrame address intensity color s
  | .frameStart => Sys2Proof.Machine.execFrameStart s
  | .logicOne => Sys2Proof.Machine.execLogicOne s
  | .logicZero => Sys2Proof.Machine.execLogicZero s
  | .frameEnd => Sys2Proof.Machine.execFrameEnd s
  | .fillRange start count intensity color => Sys2Proof.Machine.execFillRange start count intensity color s
  | .fillRandom start count intensity => Sys2Proof.Machine.execFillRandom start count intensity s
  | .fillSequenceColor start count sequence spanSize intensity f => Sys2Proof.Machine.execFillSequenceColor start count sequence spanSize intensity f s
  | .fillSequenceColorIntensity start count sequence spanSize g => Sys2Proof.Machine.execFillSequenceColorIntensity start count sequence spanSize g s
  | .fillSequenceWholeString sequence spanSize form => Sys2Proof.Machine.execFillSequenceWholeString sequence spanSize form s
  | .enumerate reverse => Sys2Proof.Machine.execEnumerate reverse s
  | .fadeIn delayMs => Sys2Proof.Machine.execFadeIn delayMs s
  | .fadeOut delayMs => Sys2Proof.Machine.execFadeOut delayMs s
  | .color r g b => Sys2Proof.Machine.execColor r g b s
  | .colorHue h => Sys2Proof.Machine.execColorHue h s
  | .rainbowColor index => Sys2Proof.Machine.execRainbowColor index s
  | .maxColor index => Sys2Proof.Machine.execMaxColor index s
  | .rsp code data => Sys2Proof.Machine.execRsp code data s

end Sys2Proof.Machine
end

