-- ==== Sys2Proof/Machine/Fetch.lean ====
section
/-! DEFINITION. What one clock cycle runs: there is no program counter and no instruction memory (10_state R12, R19).
While a frame is in flight the primitive at the frame position runs; while the block is idle the host's next action
does (40_waveform R72, 41_frame R80). -/

namespace Sys2Proof.Machine

/-- What a host may call: everything but a frame, a primitive and a response, which have no opcode and no caller
syntax (R57, R133). -/
def hostCallable : Instr → Bool
  | .setColor _ _ _ => true
  | .setColorIfInRange _ _ _ => true
  | .getLightCount _ => true
  | .reservedOp0 _ => true
  | .reservedOp4 _ => true
  | .reservedOp5 _ => true
  | .reservedOp6 _ => true
  | .reservedOp7 _ => true
  | .reservedRsv1 _ => true
  | .frame _ _ _ => false
  | .frameStart => false
  | .logicOne => false
  | .logicZero => false
  | .frameEnd => false
  | .fillRange _ _ _ _ => true
  | .fillRandom _ _ _ => true
  | .fillSequenceColor _ _ _ _ _ _ => true
  | .fillSequenceColorIntensity _ _ _ _ _ => true
  | .fillSequenceWholeString _ _ _ => true
  | .enumerate _ => true
  | .fadeIn _ => true
  | .fadeOut _ => true
  | .color _ _ _ => true
  | .colorHue _ => true
  | .rainbowColor _ => true
  | .maxColor _ => true
  | .rsp _ _ => false

/-- The primitive the frame in flight stands at, by `PH` and the bit being sent, `SR[25]` (R12, R72); none when idle. -/
def currentSymbol (s : State) : Option Instr :=
  match s.phase with
  | .idle => none
  | .start => some .frameStart
  | .bitLow => some (if s.sr.getLsbD 25 then .logicOne else .logicZero)
  | .bitHigh => some (if s.sr.getLsbD 25 then .logicOne else .logicZero)
  | .quiet => some .frameEnd

/-- What a clock cycle does. -/
inductive Activity where
  /-- This instruction runs, on this state; then the host's reset goes on. -/
  | runs (i : Instr) (s : State)
  /-- No instruction runs; this is the next state. -/
  | idles (s : State)
  /-- The host did what no caller can. -/
  | refuses (r : Refusal)
deriving DecidableEq, Repr

/-- The idle block with `rst = 0`: the host's next action. An issued word is decoded and accepted (R80); a pause lets
a cycle pass; a call runs its operation (R57), unless it is private to the block (R133). -/
def hostActivity (s : State) : Activity :=
  match s.queue with
  | [] => .idles s.clearRsp
  | .issue w :: rest => .runs (decodeCommand w) (s.clearRsp.setQueue rest)
  | .pause n :: rest => .idles (s.clearRsp.setQueue (pauseLeft n rest)).resetTick
  | .reset _ _ :: _ => .idles s.clearRsp.resetTick
  | .call i :: rest => if hostCallable i then .runs i (s.clearRsp.setQueue rest) else .refuses .privateToBlock

/-- What this clock cycle does: reset overrides everything (R130); a frame in flight goes on, whatever the host
presents (R72, R79, R129); else the host acts. -/
def activity (s : State) : Activity :=
  if s.rst then .idles s.resetEdge
  else match currentSymbol s with
    | some i => .runs i s.clearRsp
    | none => hostActivity s

/-- The state with the block idle, ready and out of reset. -/
def idleBlock (s : State) : State :=
  { s with phase := .idle, dout := false, doutOe := true, rspOwed := false, rstCycles := 0 }

/-- The state with the frame in flight at its first cycle of this primitive; every other instruction is called by
the host. -/
def placeInstr (s : State) : Instr → State
  | .frameStart => { idleBlock s with phase := .start, bitcnt := 26, tmr := s.ticks s.timing.startHigh, dout := true, rspOwed := true }
  | .logicOne => { idleBlock s with phase := .bitLow, sr := s.sr ||| 0x2000000, bitcnt := 26, tmr := s.ticks s.timing.oneLow, rspOwed := true }
  | .logicZero => { idleBlock s with phase := .bitLow, sr := s.sr &&& 0x1FFFFFF, bitcnt := 26, tmr := s.ticks s.timing.zeroLow, rspOwed := true }
  | .frameEnd => { idleBlock s with phase := .quiet, sr := 0, bitcnt := 0, tmr := s.ticks s.timing.endLow, rspOwed := true }
  | i => { idleBlock s with queue := .call i :: s.queue }

/-- Puts a table word where the next clock cycle runs it (log 24): a command word is presented to the idle block; a
wire symbol is the one the frame in flight stands at. -/
def placeWord (s : State) (nbits w : Nat) : State :=
  match nbits with
  | 32 => { idleBlock s with queue := .issue (BitVec.ofNat 32 w) :: s.queue }
  | _ =>
    match decodeTableWord nbits w with
    | some i => placeInstr s i
    | none => s

end Sys2Proof.Machine
end

