-- ==== Sys2Proof/Machine/Step.lean ====
section
/-! DEFINITION. One step is one clock cycle (40_waveform R72; log 5). -/

namespace Sys2Proof.Machine

/-- One clock cycle: what the cycle runs, run; with `rst = 0` the host's reset goes on at its end (log 26). -/
def step (s : State) : Host.Outcome State Fault Refusal :=
  match activity s with
  | .runs i t => thenResetTick (exec i t)
  | .idles t => .next t
  | .refuses r => .refused r

/-- The state whose next step runs the instruction in this table word (log 24). -/
def State.withFetchWord (s : State) (nbits w : Nat) : State := placeWord s nbits w

end Sys2Proof.Machine
end

