-- ==== Sys2Proof/Machine/Construct.lean ====
section
/-! DEFINITION. Construction, the release of `rst` (41_frame R75, 70_reset R145). It has no opcode and no row in the
opcode table. -/

namespace Sys2Proof.Machine

/-- `create(outputLine, lightCount)` with its timing and the other parameters of the instance (R75). A zero timing
field cannot be constructed (R14), nor an instance without a clock cycle per microsecond (D1). -/
def create (outputLine : Nat) (lightCount : BitVec 8) (timing : TimingConfig) (inst : InstanceParams) : Out :=
  if timing.legal = false then .refused .illegalTiming
  else if inst.legal = false then .refused .illegalTickRate
  else .next (State.construct outputLine lightCount timing inst)

end Sys2Proof.Machine
end

