-- ==== Sys2Proof/Machine/Waveform.lean ====
section
/-! DEFINITION. Waveforms as values (00_scope R6, 30_encoding R49 and R60, 40_waveform R65 to R74, 41_frame R83): what
the line must show, written without the registers. -/

namespace Sys2Proof.Machine

/-- A stretch of one level: `H(d)` or `L(d)`, in microseconds (R6). -/
structure Segment where
  /-- `true` for HIGH (R9). -/
  level : Bool
  /-- The duration in microseconds. -/
  us : Nat
deriving DecidableEq, Repr

/-- `H(d)` (R6). -/
def high (us : BitVec 16) : Segment := { level := true, us := us.toNat }

/-- `L(d)` (R6). -/
def low (us : BitVec 16) : Segment := { level := false, us := us.toNat }

/-- A line of a primitive's pseudocode: a drive event takes no time, a hold keeps the line (R6). -/
inductive LineEvent where
  | drive (level : Bool)
  | hold (us : BitVec 16)
deriving DecidableEq, Repr

/-- FRAME_START's pseudocode (R65). -/
def frameStartEvents (t : TimingConfig) : List LineEvent := [.drive true, .hold t.startHigh, .drive false]

/-- LOGIC_ONE's pseudocode (R66). -/
def logicOneEvents (t : TimingConfig) : List LineEvent :=
  [.drive false, .hold t.oneLow, .drive true, .hold t.oneHigh, .drive false]

/-- LOGIC_ZERO's pseudocode (R67). -/
def logicZeroEvents (t : TimingConfig) : List LineEvent :=
  [.drive false, .hold t.zeroLow, .drive true, .hold t.zeroHigh, .drive false]

/-- FRAME_END's pseudocode (R68). -/
def frameEndEvents (t : TimingConfig) : List LineEvent := [.drive false, .hold t.endLow]

/-- The segments a list of line events shows, from a line at the given level. -/
def segmentsOf : Bool → List LineEvent → List Segment
  | _, [] => []
  | _, .drive v :: rest => segmentsOf v rest
  | level, .hold us :: rest => { level := level, us := us.toNat } :: segmentsOf level rest

/-- The level a list of line events leaves the line at. -/
def levelAfter : Bool → List LineEvent → Bool
  | level, [] => level
  | _, .drive v :: rest => levelAfter v rest
  | level, .hold _ :: rest => levelAfter level rest

/-- The bits of a frame in wire order, `F[25]` first, `F[0]` last (R34, R46). -/
def wireBits (f : FrameBits) : List Bool := (List.range 26).map fun j => f.getLsbD (25 - j)

/-- The symbols of a frame: `S b25 b24 ... b0 E` (R49). -/
def frameSymbols (f : FrameBits) : List Instr :=
  .frameStart :: (wireBits f).map (fun b => if b then .logicOne else .logicZero) ++ [.frameEnd]

/-- The pseudocode of a bit's primitive. -/
def cellEvents (t : TimingConfig) (b : Bool) : List LineEvent := if b then logicOneEvents t else logicZeroEvents t

/-- The pseudocode of a whole frame, primitive after primitive (R71, R74). -/
def frameEvents (t : TimingConfig) (f : FrameBits) : List LineEvent :=
  frameStartEvents t ++ (wireBits f).flatMap (cellEvents t) ++ frameEndEvents t

/-- `Cell(b)` (R74). -/
def cellWave (t : TimingConfig) (b : Bool) : List Segment := [low (lowUs t b), high (highUs t b)]

/-- `Wave(F)` (R74). -/
def wave (t : TimingConfig) (f : FrameBits) : List Segment :=
  high t.startHigh :: (wireBits f).flatMap (cellWave t) ++ [low t.endLow]

/-- The length of a waveform in microseconds. -/
def totalUs (w : List Segment) : Nat := (w.map Segment.us).sum

/-- `Len(F)` (R74). -/
def frameUs (t : TimingConfig) (f : FrameBits) : Nat := totalUs (wave t f)

/-- `ones(F)`, the number of one bits (R83). -/
def onesOf (f : FrameBits) : Nat := (wireBits f).count true

/-- A waveform sampled once per clock cycle, `K` cycles to the microsecond (R6, R74). -/
def sample (k : Nat) (w : List Segment) : List Bool := w.flatMap fun seg => List.replicate (k * seg.us) seg.level

/-- A measured segment is the nominal one but for a deviation of at most `tol` microseconds (R70, R155, D2; log 22). -/
def Segment.inTol (tol : Nat) (nominal measured : Segment) : Bool :=
  decide (measured.level = nominal.level) && decide (nominal.us ≤ measured.us + tol) &&
    decide (measured.us ≤ nominal.us + tol)

/-- A measured waveform is the nominal one, segment by segment, within the instance's `TOL` (R70). -/
def InTolerance (p : InstanceParams) (nominal measured : List Segment) : Prop :=
  List.Forall₂ (fun n m => Segment.inTol p.tol n m = true) nominal measured

/-- No two neighbouring segments have the same level (R6). -/
def normalised : List Segment → Bool
  | [] => true
  | [_] => true
  | a :: b :: rest => decide (a.level ≠ b.level) && normalised (b :: rest)

/-- How often the level rises, from a line at the given level (R74). -/
def risingEdges : Bool → List Bool → Nat
  | _, [] => 0
  | before, v :: rest => (if v && !before then 1 else 0) + risingEdges v rest

/-- How often the level falls, from a line at the given level (R74). -/
def fallingEdges : Bool → List Bool → Nat
  | _, [] => 0
  | before, v :: rest => (if before && !v then 1 else 0) + fallingEdges v rest

/-- The slot form of a frame at the default timing (R60). -/
def frameSlots (f : FrameBits) : List Bool :=
  true :: (wireBits f).flatMap cellSlots ++ [false, false, false]

end Sys2Proof.Machine
end

