-- ==== Sys2Proof/Safety.lean ====
section
/-! DEFINITION. What counts as a safe run, and the terms the statements use: runs and traces, the clock edge of R72
written from its pseudocode alone, and the invariant of the encoder. -/

namespace Sys2Proof.Machine

/-- `n` clock cycles. -/
def runCycles (n : Nat) (s : State) : Out := Sys2Proof.core.run n s

/-- The line in `n` cycles, the current one first: `LINE(0), ..., LINE(n-1)` (R6). It ends early only where a step
refuses. -/
def trace : Nat → State → List Bool
  | 0, _ => []
  | n + 1, s =>
    s.line :: match step s with
      | .next t => trace n t
      | .fault _ => []
      | .refused _ => []

/-- The responses presented in `n` cycles, the current one first (R81, R163). -/
def responses : Nat → State → List (BitVec 2 × BitVec 8)
  | 0, _ => []
  | n + 1, s =>
    s.response.toList ++ match step s with
      | .next t => responses n t
      | .fault _ => []
      | .refused _ => []

/-- A configuration that can be constructed (R14, D1). -/
def State.legalConfig (s : State) : Bool := s.timing.legal && s.inst.legal

/-- What the phase says of the other registers (R11, R12, R16, R36, R73): the level of the line, whether a DONE is
owed, how many bits are left, how much of the hold is left, and that the bits already sent have left `SR`. -/
def State.phaseOk (s : State) : Prop :=
  match s.phase with
  | .idle => s.dout = false ∧ s.rspOwed = false
  | .start => s.dout = true ∧ s.rspOwed = true ∧ s.bitcnt = 26 ∧ 1 ≤ s.tmr ∧ s.tmr ≤ s.ticks s.timing.startHigh
  | .bitLow => s.dout = false ∧ s.rspOwed = true ∧ 1 ≤ s.bitcnt.toNat ∧ s.bitcnt.toNat ≤ 26 ∧
      s.sr <<< s.bitcnt.toNat = 0 ∧ 1 ≤ s.tmr ∧ s.tmr ≤ s.ticks (lowUs s.timing (s.sr.getLsbD 25))
  | .bitHigh => s.dout = true ∧ s.rspOwed = true ∧ 1 ≤ s.bitcnt.toNat ∧ s.bitcnt.toNat ≤ 26 ∧
      s.sr <<< s.bitcnt.toNat = 0 ∧ 1 ≤ s.tmr ∧ s.tmr ≤ s.ticks (highUs s.timing (s.sr.getLsbD 25))
  | .quiet => s.dout = false ∧ s.rspOwed = true ∧ s.bitcnt = 0 ∧ s.sr = 0 ∧ 1 ≤ s.tmr ∧ s.tmr ≤ s.ticks s.timing.endLow

/-- What the response register may hold (R16, R52): code 3 never; data only with DONE, and then the light count or
0; a response is presented only while the block is idle. -/
def State.rspOk (s : State) : Prop :=
  s.rspCode ≠ 3 ∧ (s.rspData = 0 ∨ (s.rspCode = 0 ∧ s.rspData = s.lightCount)) ∧ (s.rspValid = true → s.phase = .idle)

/-- The invariant of the block: a legal configuration, the line driven exactly while `rst = 0` (R15), and the two
conditions above. -/
def State.Inv (s : State) : Prop :=
  s.legalConfig = true ∧ (s.doutOe = true ↔ s.rstCycles = 0) ∧ s.phaseOk ∧ s.rspOk

/-- The host's duties on one entry of its queue (R150): calls only what a caller can call, inside its domain. -/
def hostOpOk : HostOp → Bool
  | .issue _ => true
  | .pause _ => true
  | .reset _ _ => true
  | .call i => hostCallable i && i.wellFormed

/-- A host that keeps its duties (R150). -/
def State.hostOk (s : State) : Bool := s.queue.all hostOpOk

/-- The configuration and the other instance parameters are the same (R13, R5). -/
def SameConfig (s t : State) : Prop :=
  t.lightCount = s.lightCount ∧ t.outputLine = s.outputLine ∧ t.timing = s.timing ∧ t.inst = s.inst

/-- The in-flight frame state, the line register and the owed response are the same (R11, R15, R16). -/
def SameDatapath (s t : State) : Prop :=
  t.phase = s.phase ∧ t.sr = s.sr ∧ t.bitcnt = s.bitcnt ∧ t.tmr = s.tmr ∧ t.dout = s.dout ∧ t.rspOwed = s.rspOwed

/-- The response presented is the same (R16). -/
def SameResponse (s t : State) : Prop :=
  t.rspValid = s.rspValid ∧ t.rspCode = s.rspCode ∧ t.rspData = s.rspData

/-- The output enable and the `rst` input are the same (R15, R22). -/
def SamePins (s t : State) : Prop := t.doutOe = s.doutOe ∧ t.rstCycles = s.rstCycles

/-- The host's fields are the same (log 6, 7, 18). -/
def SameHost (s t : State) : Prop := t.queue = s.queue ∧ t.retColor = s.retColor ∧ t.freeIdx = s.freeIdx

/-- Every register of the block and its configuration are the same (R10). -/
def SameBlock (s t : State) : Prop := SameConfig s t ∧ SameDatapath s t ∧ SameResponse s t ∧ SamePins s t

/-- The instruction sends this frame when it is accepted: the two transmitting commands, the guarded one only in
range (R76, R77). -/
def Transmits (s : State) (i : Instr) (f : FrameBits) : Prop :=
  (∃ p n c, i = .setColor p n c ∧ f = frameOf p n c) ∨
  (∃ p n c, i = .setColorIfInRange p n c ∧ p.toNat < s.lightCount.toNat ∧ f = frameOf p n c)

/-- The idle block, ready, driving the line LOW, with a legal configuration: any cycle between two frames (R84). -/
def State.atRest (s : State) : Prop :=
  s.phase = .idle ∧ s.rstCycles = 0 ∧ s.doutOe = true ∧ s.dout = false ∧ s.legalConfig = true

/-- `accept(w)` as R80 writes it, on the fields of the word. -/
def acceptR80 (w : CommandWord) (s : State) : State :=
  if w.getLsbD 31 = true ∨ (w.extractLsb' 28 3).toNat ∈ [0, 4, 5, 6, 7] then
    { s with rspValid := true, rspCode := 2, rspData := 0 }
  else if w.extractLsb' 28 3 = 3 then
    { s with rspValid := true, rspCode := 0, rspData := s.lightCount }
  else if w.extractLsb' 28 3 = 2 ∧ s.lightCount.toNat ≤ (w.extractLsb' 20 8).toNat then
    { s with rspValid := true, rspCode := 1, rspData := 0 }
  else
    { s with sr := w.extractLsb' 20 6 ++ w.extractLsb' 12 8 ++ w.extractLsb' 0 12, bitcnt := 26, phase := .start,
             tmr := s.inst.ticksPerUs * s.timing.startHigh.toNat, dout := true, rspOwed := true }

/-- The clock edge with `rst = 0`, line for line as R72 writes it; `port` is the command word when `cmd_valid = 1`. -/
def edgeR72 (port : Option CommandWord) (s0 : State) : State :=
  let k := s0.inst.ticksPerUs
  let t := s0.timing
  let s := { s0 with rspValid := false }
  match s0.phase with
  | .idle => match port with
    | some w => acceptR80 w s
    | none => s
  | .start =>
    if s0.tmr > 1 then { s with tmr := s0.tmr - 1 }
    else { s with dout := false, phase := .bitLow,
                  tmr := k * (if s0.sr.getLsbD 25 then t.oneLow else t.zeroLow).toNat }
  | .bitLow =>
    if s0.tmr > 1 then { s with tmr := s0.tmr - 1 }
    else { s with dout := true, phase := .bitHigh,
                  tmr := k * (if s0.sr.getLsbD 25 then t.oneHigh else t.zeroHigh).toNat }
  | .bitHigh =>
    if s0.tmr > 1 then { s with tmr := s0.tmr - 1 }
    else if s0.bitcnt = 1 then
      { s with dout := false, sr := s0.sr.extractLsb' 0 25 ++ 0#1, bitcnt := s0.bitcnt - 1, phase := .quiet,
               tmr := k * t.endLow.toNat }
    else
      { s with dout := false, sr := s0.sr.extractLsb' 0 25 ++ 0#1, bitcnt := s0.bitcnt - 1, phase := .bitLow,
               tmr := k * (if s0.sr.getLsbD 24 then t.oneLow else t.zeroLow).toNat }
  | .quiet =>
    if s0.tmr > 1 then { s with tmr := s0.tmr - 1 }
    else { s with phase := .idle, rspValid := true, rspCode := 0, rspData := 0, rspOwed := false }

/-- The command words a queue will present, in order, each with the idle cycles
the host lets pass before it (R90). `acc` is the cycles already passed; only issues and pauses are looked at. -/
def issuesOf : Nat → List HostOp → List (Nat × CommandWord)
  | _, [] => []
  | acc, .issue w :: rest => (acc, w) :: issuesOf 0 rest
  | acc, .pause n :: rest => issuesOf (acc + n) rest
  | acc, .reset _ _ :: rest => issuesOf acc rest
  | acc, .call _ :: rest => issuesOf acc rest

/-- The words alone, in order. -/
def wordsOf (q : List HostOp) : List CommandWord := (issuesOf 0 q).map Prod.snd

end Sys2Proof.Machine
end

