-- ==== Sys2Proof/Certificates/Slice0/Obligations.lean ====
section
/-! DEFINITION. The statements about the encoder, for the provers. Each docstring names the rules it formalises. -/

open Sys2Proof Sys2Proof.Machine

/-! ### Construction, reset and whole-machine rules -/

/-- R23: the registers in cycle 0, for every instance that can be constructed. -/
def Obligations.ConstructionResetValues : Prop :=
  ∀ (line : Nat) (lc : BitVec 8) (t : TimingConfig) (p : InstanceParams) (s : State), create line lc t p = .next s →
    s.phase = .idle ∧ s.sr = 0 ∧ s.bitcnt = 0 ∧ s.tmr = 0 ∧ s.dout = false ∧ s.doutOe = true ∧
    s.rspValid = false ∧ s.rspCode = 0 ∧ s.rspData = 0 ∧ s.rspOwed = false ∧
    s.lightCount = lc ∧ s.outputLine = line ∧ s.timing = t

/-- R14: an instance with a zero timing field is refused; with every field and `K` at least 1 it is constructed (the
`K` premise is D1's). -/
def Obligations.ZeroTimingIsRefused : Prop :=
  ∀ (line : Nat) (lc : BitVec 8) (t : TimingConfig) (p : InstanceParams),
    ((t.startHigh = 0 ∨ t.oneLow = 0 ∨ t.oneHigh = 0 ∨ t.zeroLow = 0 ∨ t.zeroHigh = 0 ∨ t.endLow = 0) →
      create line lc t p = .refused .illegalTiming) ∧
    (t.startHigh ≠ 0 → t.oneLow ≠ 0 → t.oneHigh ≠ 0 → t.zeroLow ≠ 0 → t.zeroHigh ≠ 0 → t.endLow ≠ 0 →
      1 ≤ p.ticksPerUs → create line lc t p = .next (State.construct line lc t p))

/-- R145, R146, R130, R158, R161: an edge with `rst = 1` gives every register its reset value, whatever was in
flight or presented, and keeps the configuration; a host that raises `rst` in a frame so cuts it without a response; and
a host that raises it behind a word makes `rst = 1` in the cycle after the word's acceptance. When `DOUT_OE` changes is
the model's reading (log 10), and so is that the host keeps its queue (log 26). -/
def Obligations.ResetOverridesEverything : Prop :=
  (∀ s : State, s.rstCycles ≠ 0 →
    ∃ t, step s = .next t ∧
      t.phase = .idle ∧ t.sr = 0 ∧ t.bitcnt = 0 ∧ t.tmr = 0 ∧ t.dout = false ∧
      t.rspValid = false ∧ t.rspCode = 0 ∧ t.rspData = 0 ∧ t.rspOwed = false ∧
      (t.doutOe = true ↔ s.rstCycles = 1) ∧ t.rstCycles = s.rstCycles - 1 ∧
      SameConfig s t ∧ t.queue = s.queue ∧ t.retColor = s.retColor) ∧
  (∀ (s : State) (n : Nat) (q : List HostOp), s.rstCycles = 0 → s.busy = true → 1 ≤ n → s.queue = .reset 0 n :: q →
    ∃ t u, step s = .next t ∧ t.doutOe = false ∧ t.queue = q ∧ step t = .next u ∧
      u.busy = false ∧ u.dout = false ∧ u.rspValid = false ∧ u.rspOwed = false) ∧
  (∀ (s : State) (w : CommandWord) (n : Nat) (q : List HostOp), s.cmdReady = true → 1 ≤ n →
    s.queue = .issue w :: .reset 0 n :: q →
    ∃ t u, step s = .next t ∧ t.rst = true ∧ t.doutOe = false ∧ t.queue = q ∧ step t = .next u ∧
      u.busy = false ∧ u.dout = false ∧ u.rspValid = false ∧ u.rspOwed = false)

/-- R147: as long as the host presents nothing, the line stays LOW and the block idle, ready and silent. -/
def Obligations.SilentHostKeepsLineLow : Prop :=
  ∀ (n : Nat) (s : State), s.phase = .idle → s.rstCycles = 0 → s.doutOe = true → s.dout = false → s.rspValid = false →
    (∀ op ∈ s.queue, ∃ c, op = .pause c) →
    trace n s = List.replicate n false ∧
    ∃ t, runCycles n s = .next t ∧ t.busy = false ∧ t.cmdReady = true ∧ t.rspValid = false ∧ SameConfig s t

/-- R11, R12, R15, R16, R36, R52, R73: the invariant of the encoder holds after every step from a state in which it
holds. -/
def Obligations.StepKeepsEncoderInvariant : Prop :=
  ∀ s t : State, s.Inv → step s = .next t → t.Inv

/-- R23, R75: every instance that can be constructed meets the invariant. -/
def Obligations.ConstructedInstanceMeetsInvariant : Prop :=
  ∀ (line : Nat) (lc : BitVec 8) (t : TimingConfig) (p : InstanceParams) (s : State),
    create line lc t p = .next s → s.Inv

/-- R13, R161: no instruction and no clock cycle writes a configuration register. -/
def Obligations.ConfigurationIsNeverWritten : Prop :=
  (∀ (i : Instr) (s t : State), exec i s = .next t → SameConfig s t) ∧
  (∀ s t : State, step s = .next t → SameConfig s t)

/-- R72: a step always answers a next state: under reset and with a frame in flight whatever the host does, and in
the idle block for a host that keeps its duties (R150), which it then still does. -/
def Obligations.StepIsTotal : Prop :=
  (∀ s : State, s.rst = true ∨ s.busy = true → ∃ t, step s = .next t) ∧
  (∀ s : State, s.hostOk = true → ∃ t, step s = .next t ∧ t.hostOk = true)

/-- R12, R36: the phases follow each other only in the order START, (BITLOW, BITHIGH) repeated, END, IDLE. -/
def Obligations.PhaseOrder : Prop :=
  ∀ s t : State, s.rst = false → step s = .next t →
    match s.phase with
    | .idle => t.phase = .idle ∨ t.phase = .start
    | .start => t.phase = .start ∨ (s.tmr ≤ 1 ∧ t.phase = .bitLow)
    | .bitLow => t.phase = .bitLow ∨ (s.tmr ≤ 1 ∧ t.phase = .bitHigh)
    | .bitHigh => t.phase = .bitHigh ∨ (s.tmr ≤ 1 ∧ t.phase = if s.bitcnt = 1 then .quiet else .bitLow)
    | .quiet => t.phase = .quiet ∨ (s.tmr ≤ 1 ∧ t.phase = .idle)

/-- R36, R133, R134: a frame leaves the block only by the acceptance of a transmitting command; nothing else makes an
idle block busy. -/
def Obligations.OnlyTransmittingCommandStartsFrame : Prop :=
  ∀ s t : State, s.busy = false → step s = .next t → t.busy = true →
    s.rst = false ∧ ∃ i f q, (s.queue = .call i :: q ∨ ∃ w, s.queue = .issue w :: q ∧ i = decodeCommand w) ∧
      Transmits s i f ∧ t.sr = f ∧ t.bitcnt = 26 ∧ t.phase = .start ∧ t.dout = true

/-! ### Encodings -/

/-- R45 to R52, R60: every instruction that has an encoding is read back whole, every operand at every value. That this
includes responses R52 never produces (code 1 or 2 with data other than 0) is the model's choice (log 36). -/
def Obligations.DecodeOfEncodeIsIdentity : Prop :=
  ∀ (i : Instr) (c : Code), encode i = some c → decode c = .ok i

/-- R50, R51, R53 and log 14 (DESIGN CHOICE): every 32-bit word is the encoding of exactly what the command port decodes
it to. That no bit of a word is dropped, the ignored bits of GET_LIGHT_COUNT and the open bits of the reserved rows
included, is the model's choice and no rule of the spec. -/
def Obligations.CommandWordRoundTrip : Prop :=
  ∀ w : CommandWord, encode (decodeCommand w) = some (.c32 w)

/-- R50, R51: the opcode map under its masks, and where the operands stand in the word. -/
def Obligations.OpcodeMapUnderMasks : Prop :=
  ∀ w : CommandWord,
    (w &&& 0xF0000000 = 0x10000000 →
      decodeCommand w = .setColor (w.extractLsb' 20 8) (w.extractLsb' 12 8) (w.extractLsb' 0 12)) ∧
    (w &&& 0xF0000000 = 0x20000000 →
      decodeCommand w = .setColorIfInRange (w.extractLsb' 20 8) (w.extractLsb' 12 8) (w.extractLsb' 0 12)) ∧
    (w &&& 0xF0000000 = 0x30000000 → decodeCommand w = .getLightCount (w.extractLsb' 0 28)) ∧
    (w &&& 0xF0000000 = 0x00000000 → decodeCommand w = .reservedOp0 (w.extractLsb' 0 28)) ∧
    (w &&& 0xF0000000 = 0x40000000 → decodeCommand w = .reservedOp4 (w.extractLsb' 0 28)) ∧
    (w &&& 0xF0000000 = 0x50000000 → decodeCommand w = .reservedOp5 (w.extractLsb' 0 28)) ∧
    (w &&& 0xF0000000 = 0x60000000 → decodeCommand w = .reservedOp6 (w.extractLsb' 0 28)) ∧
    (w &&& 0xF0000000 = 0x70000000 → decodeCommand w = .reservedOp7 (w.extractLsb' 0 28)) ∧
    (w &&& 0x80000000 = 0x80000000 → decodeCommand w = .reservedRsv1 (w.extractLsb' 0 31))

/-- 95_test_vectors V20, V11, V19, V21, V22, P1 and R46, R52, R60: words written out from the spec decode to what
they stand for. The last line is the model's choice (log 36, DESIGN CHOICE) and no word of the spec: R52 never produces
code 1 with data other than 0, and the decoder keeps the data. -/
def Obligations.SpecWordsDecode : Prop :=
  decodeCommand 0x105CC00F = .setColor 5 0xCC 0x00F ∧
  decodeCommand 0x23107123 = .setColorIfInRange 49 7 0x123 ∧
  decodeCommand 0x3ABCDEF1 = .getLightCount 0xABCDEF1 ∧
  decodeCommand 0x00000000 = .reservedOp0 0 ∧
  decodeCommand 0x90000000 = .reservedRsv1 0x10000000 ∧
  decodeFrame 0x05CC00F = .frame 5 0xCC 0x00F ∧
  decode (.slots [false, false, true]) = .ok .logicOne ∧
  decode (.rsp 0x032) = .ok (.rsp .done 0x32) ∧
  decode (.rsp 0x100) = .ok (.rsp .outOfRange 0) ∧
  decode (.rsp 0x200) = .ok (.rsp .illegal 0) ∧
  decode (.rsp 0x132) = .ok (.rsp .outOfRange 0x32)

/-- R46, R47, R34: the frame of an 8-bit position, as a number and as bits in wire order. -/
def Obligations.FrameAssembly : Prop :=
  ∀ (p : Pos) (i : Intensity) (c : Color),
    (frameOf p i c).toNat = p.toNat % 64 * 2 ^ 20 + i.toNat * 2 ^ 12 + c.toNat ∧
    wireBits (frameOf p i c) =
      (List.range 6).map (fun j => p.getLsbD (5 - j)) ++ (List.range 8).map (fun j => i.getLsbD (7 - j)) ++
        (List.range 12).map (fun j => c.getLsbD (11 - j))

/-- R49, R60: at the default timing the 82 slots of a frame are its waveform in steps of 10 µs, and they read back as
its 28 symbols. -/
def Obligations.SlotFormIsTheFrame : Prop :=
  ∀ f : FrameBits,
    (frameSlots f).length = 82 ∧
    (∀ k : Nat, (frameSlots f).flatMap (List.replicate (10 * k)) = sample k (wave TimingConfig.default f)) ∧
    (frameSymbols f).length = 28 ∧
    decodeSymbols 28 (frameSlots f) = .ok (frameSymbols f, [])

/-! ### A step runs the decoded instruction -/

/-- R72, R80: with `rst = 0`, a cycle of the idle block with a word presented is the execution of what the word
decodes to, and a cycle with a frame in flight is the execution of the primitive at the frame position. The step adds
around it that `RSP_VALID` is cleared first; for a word, that the host has been relieved of it; and at the end, that a
reset at the front of the host's queue goes on (`thenResetTick`, log 26; StepRunsHostActions says how). -/
def Obligations.StepRunsDecodedInstruction : Prop :=
  (∀ (s : State) (w : CommandWord) (q : List HostOp), s.rstCycles = 0 → s.phase = .idle → s.queue = .issue w :: q →
    step s = thenResetTick (exec (decodeCommand w) { s with rspValid := false, queue := q })) ∧
  (∀ s : State, s.rstCycles = 0 → s.phase = .start →
    step s = thenResetTick (exec .frameStart { s with rspValid := false })) ∧
  (∀ s : State, s.rstCycles = 0 → s.phase = .bitLow ∨ s.phase = .bitHigh →
    step s = thenResetTick (exec (if s.sr.getLsbD 25 then .logicOne else .logicZero) { s with rspValid := false })) ∧
  (∀ s : State, s.rstCycles = 0 → s.phase = .quiet →
    step s = thenResetTick (exec .frameEnd { s with rspValid := false }))

/-- R57, R90, R133, R145 and the model's host (log 6, 8, 26, 27): the other cycles of the idle block, and what a reset
at the front of the host's queue does at the end of any cycle. -/
def Obligations.StepRunsHostActions : Prop :=
  (∀ (s : State) (q : List HostOp), s.rstCycles = 0 → s.phase = .idle →
    (s.queue = [] → step s = .next { s with rspValid := false }) ∧
    (∀ i, s.queue = .call i :: q →
      step s = if hostCallable i then thenResetTick (exec i { s with rspValid := false, queue := q })
        else .refused .privateToBlock) ∧
    (∀ n, s.queue = .pause n :: q →
      step s = .next { s with rspValid := false, queue := if n ≤ 1 then q else .pause (n - 1) :: q }.resetTick) ∧
    (∀ k n, s.queue = .reset k n :: q → step s = .next { s with rspValid := false }.resetTick)) ∧
  (∀ (s : State) (q : List HostOp) (k n : Nat),
    (s.queue = .reset (k + 1) n :: q → s.resetTick = { s with queue := .reset k n :: q }) ∧
    (1 ≤ n → s.queue = .reset 0 n :: q → s.resetTick = { s with queue := q, rstCycles := n, doutOe := false }) ∧
    (noResetNext s.queue = true → s.resetTick = s)) ∧
  (∀ s : State, thenResetTick (.next s) = .next s.resetTick)

/-- R72, R80: the whole encoder. With `rst = 0`, each cycle is the clock edge of R72 on the word on the command port,
issued or called by name; besides it only the host's own fields move (the value and the count of free values in a call
alone), and then the host's reset goes on. The queue left is the old one, less the entry used up, but for what a bulk
operation puts there, and no reset is added. The premise leaves out only the calls no caller can make (R133, R150). What
is said of the queue, the value, the count of free values and the reset going on is a law of the model's own host
(log 6, 7, 18, 26; DESIGN CHOICE) and no rule of the spec. -/
def Obligations.ClockEdgeIsR72 : Prop :=
  ∀ s : State, s.rstCycles = 0 →
    (s.phase = .idle → ∀ i, s.queue.head? = some (.call i) → hostCallable i = true ∧ i.wellFormed = true) →
    ∃ q rc fi,
      step s = .next (State.resetTick { edgeR72 s.cmdPort s with queue := q, retColor := rc, freeIdx := fi }) ∧
      (s.phase ≠ .idle → q = s.queue) ∧
      ((s.phase = .idle → ∀ i, s.queue.head? ≠ some (.call i)) → rc = s.retColor ∧ fi = s.freeIdx ∧
        (q = s.queue ∨ q = s.queue.tail ∨ ∃ c, q = .pause c :: s.queue.tail)) ∧
      (∀ k n, .reset k n ∉ s.queue → .reset k n ∉ q)

/-- R72, R79, R80: while a frame is in flight nothing the host presents is read: two states that differ in the queue
alone, neither with a reset at its front, step to states that differ in the queue alone, and the word presented waits. -/
def Obligations.BusyBlockReadsNothing : Prop :=
  ∀ (s : State) (q : List HostOp), s.rst = false → s.busy = true → noResetNext s.queue = true → noResetNext q = true →
    ∃ t, step s = .next t ∧ t.queue = s.queue ∧ step { s with queue := q } = .next { t with queue := q }

/-! ### The frame commands -/

/-- R76, R80: a ready block accepts every SET_COLOR and loads its frame, whatever the operands are. -/
def Obligations.SetColorLoadsFrame : Prop :=
  ∀ (p : Pos) (i : Intensity) (c : Color) (s : State), s.cmdReady = true →
    exec (.setColor p i c) s =
      .next { s with sr := frameOf p i c, bitcnt := 26, phase := .start,
                     tmr := s.inst.ticksPerUs * s.timing.startHigh.toNat, dout := true, rspOwed := true }

/-- R77, R80, R126: the guarded command answers OUT_OF_RANGE and does nothing else where `pos >= LIGHT_COUNT`, and is
SET_COLOR elsewhere. -/
def Obligations.GuardedCommandTestsRange : Prop :=
  ∀ (p : Pos) (i : Intensity) (c : Color) (s : State), s.cmdReady = true →
    (s.lightCount.toNat ≤ p.toNat →
      exec (.setColorIfInRange p i c) s = .next { s with rspValid := true, rspCode := 1, rspData := 0 }) ∧
    (p.toNat < s.lightCount.toNat →
      exec (.setColorIfInRange p i c) s =
        .next { s with sr := frameOf p i c, bitcnt := 26, phase := .start,
                       tmr := s.inst.ticksPerUs * s.timing.startHigh.toNat, dout := true, rspOwed := true })

/-- R78: GET_LIGHT_COUNT answers DONE with the light count, whatever its ignored bits are, and changes nothing but the
response. -/
def Obligations.GetLightCountAnswers : Prop :=
  ∀ (x : BitVec 28) (s : State), s.cmdReady = true →
    exec (.getLightCount x) s = .next { s with rspValid := true, rspCode := 0, rspData := s.lightCount }

/-- R53: a word that matches no row of the opcode map is consumed and answered ILLEGAL in the next cycle, and changes
nothing else (`resetTick` is a reset the host itself raises behind the word, log 26); the low bits of GET_LIGHT_COUNT are
ignored. -/
def Obligations.IllegalWordsAnswerIllegal : Prop :=
  (∀ (w : CommandWord) (q : List HostOp) (s : State), s.cmdReady = true → s.queue = .issue w :: q →
    w.getLsbD 31 = true ∨ (w.extractLsb' 28 3).toNat ∈ [0, 4, 5, 6, 7] →
    step s = .next { s with queue := q, rspValid := true, rspCode := 2, rspData := 0 }.resetTick) ∧
  (∀ (x y : BitVec 28) (s : State), exec (.getLightCount x) s = exec (.getLightCount y) s)

/-- R82: each of the six illegal rows completes with the ILLEGAL response and no other effect. -/
def Obligations.IllegalRowsComplete : Prop :=
  ∀ (x : BitVec 28) (y : BitVec 31) (s : State), s.cmdReady = true →
    ∀ i ∈ [Instr.reservedOp0 x, .reservedOp4 x, .reservedOp5 x, .reservedOp6 x, .reservedOp7 x, .reservedRsv1 y],
      exec i s = .next { s with rspValid := true, rspCode := 2, rspData := 0 }

/-- R79: a command, or a frame, that meets a block that is not ready is neither accepted nor remembered. -/
def Obligations.UnreadyBlockTakesNoCommand : Prop :=
  ∀ (p : Pos) (a : BitVec 6) (i : Intensity) (c : Color) (x : BitVec 28) (y : BitVec 31) (s : State), s.cmdReady = false →
    ∀ j ∈ [Instr.setColor p i c, .setColorIfInRange p i c, .getLightCount x, .reservedOp0 x, .reservedOp4 x,
        .reservedOp5 x, .reservedOp6 x, .reservedOp7 x, .reservedRsv1 y, .frame a i c],
      exec j s = .next s

/-- R46, R47, R76: transmitting a frame loads its 26 bits, and SET_COLOR transmits the frame of the low six bits of
its position. -/
def Obligations.FrameRowTransmits : Prop :=
  (∀ (a : BitVec 6) (i : Intensity) (c : Color) (s : State), s.cmdReady = true →
    ∃ t, exec (.frame a i c) s = .next t ∧
      t = { s with sr := a ++ i ++ c, bitcnt := 26, phase := .start,
                   tmr := s.inst.ticksPerUs * s.timing.startHigh.toNat, dout := true, rspOwed := true } ∧
      t.sr.toNat = a.toNat * 2 ^ 20 + i.toNat * 2 ^ 12 + c.toNat) ∧
  (∀ (p : Pos) (i : Intensity) (c : Color) (s : State),
    exec (.setColor p i c) s = exec (.frame (p.extractLsb' 0 6) i c) s)

/-- R52, R81: a response carries its code and data and lasts one cycle: after a cycle in which the host presents
nothing and no frame ends, none is presented. That OUT_OF_RANGE and ILLEGAL may be given data other than 0, which R52
never produces, is the model's choice (log 36). -/
def Obligations.ResponseLastsOneCycle : Prop :=
  (∀ (d : BitVec 8) (s : State),
    exec (.rsp .done d) s = .next { s with rspValid := true, rspCode := 0, rspData := d } ∧
    exec (.rsp .outOfRange d) s = .next { s with rspValid := true, rspCode := 1, rspData := d } ∧
    exec (.rsp .illegal d) s = .next { s with rspValid := true, rspCode := 2, rspData := d }) ∧
  (∀ s t : State, s.queue = [] → s.phase ≠ .quiet → step s = .next t → t.rspValid = false)

/-- R85, R77: below the light count the two commands are one; at or above it the guarded one drives nothing. -/
def Obligations.GuardedEqualsUnguardedInRange : Prop :=
  ∀ (p : Pos) (i : Intensity) (c : Color) (s : State),
    (p.toNat < s.lightCount.toNat → exec (.setColorIfInRange p i c) s = exec (.setColor p i c) s) ∧
    (s.lightCount.toNat ≤ p.toNat →
      ∃ t, exec (.setColorIfInRange p i c) s = .next t ∧ SameDatapath s t ∧ SamePins s t ∧ SameConfig s t ∧
        (s.cmdReady = true → t.rspValid = true ∧ t.rspCode = 1))

/-- R86, R100, R156: none of these reads the light count: with another count they do the same. -/
def Obligations.UnguardedRowsIgnoreLightCount : Prop :=
  ∀ (p b n k : BitVec 8) (a : BitVec 6) (i : Intensity) (c : Color) (q d : BitVec 16) (f : ColorTable)
    (g : ColorIntensityTable) (lc : BitVec 8) (s t : State),
    ∀ j ∈ [Instr.setColor p i c, .frame a i c, .fillRange b n i c, .fillRandom b n i, .fillSequenceColor b n q k i f,
        .fillSequenceColorIntensity b n q k g, .fadeIn d, .fadeOut d],
      exec j s = .next t → exec j { s with lightCount := lc } = .next { t with lightCount := lc }

/-! ### The primitives -/

/-- R65, R68, R72: one cycle of the start pulse and one of the quiet period. -/
def Obligations.StartAndEndCycles : Prop :=
  (∀ s : State, s.phase = .start →
    (1 < s.tmr → exec .frameStart s = .next { s with tmr := s.tmr - 1 }) ∧
    (s.tmr ≤ 1 → exec .frameStart s =
      .next { s with dout := false, phase := .bitLow,
                     tmr := s.inst.ticksPerUs * (if s.sr.getLsbD 25 then s.timing.oneLow else s.timing.zeroLow).toNat })) ∧
  (∀ s : State, s.phase = .quiet →
    (1 < s.tmr → exec .frameEnd s = .next { s with tmr := s.tmr - 1 }) ∧
    (s.tmr ≤ 1 → exec .frameEnd s =
      .next { s with phase := .idle, rspValid := true, rspCode := 0, rspData := 0, rspOwed := false }))

/-- R66, R67, R72: one cycle of a bit cell. Both cells are LOW first and HIGH then; the lengths are those of the bit
being sent, and the next cell's LOW is that of the next bit. -/
def Obligations.BitCellCycles : Prop :=
  ∀ (b : Bool) (s : State), s.sr.getLsbD 25 = b →
    (s.phase = .bitLow →
      (1 < s.tmr → exec (if b then .logicOne else .logicZero) s = .next { s with tmr := s.tmr - 1 }) ∧
      (s.tmr ≤ 1 → exec (if b then .logicOne else .logicZero) s =
        .next { s with dout := true, phase := .bitHigh,
                       tmr := s.inst.ticksPerUs * (if b then s.timing.oneHigh else s.timing.zeroHigh).toNat })) ∧
    (s.phase = .bitHigh →
      (1 < s.tmr → exec (if b then .logicOne else .logicZero) s = .next { s with tmr := s.tmr - 1 }) ∧
      (s.tmr ≤ 1 → s.bitcnt = 1 → exec (if b then .logicOne else .logicZero) s =
        .next { s with dout := false, sr := s.sr <<< 1, bitcnt := 0, phase := .quiet,
                       tmr := s.inst.ticksPerUs * s.timing.endLow.toNat }) ∧
      (s.tmr ≤ 1 → s.bitcnt ≠ 1 → exec (if b then .logicOne else .logicZero) s =
        .next { s with dout := false, sr := s.sr <<< 1, bitcnt := s.bitcnt - 1, phase := .bitLow,
                       tmr := s.inst.ticksPerUs * (if s.sr.getLsbD 24 then s.timing.oneLow else s.timing.zeroLow).toNat }))

/-- R36, R133 and log 16 (DEDUCED): a primitive cannot be issued alone. The rules say that no lone primitive leaves the
block and that none has an opcode; that executing one away from its place in a frame is refused is the model's choice. -/
def Obligations.PrimitivesCannotBeIssuedAlone : Prop :=
  ∀ s : State,
    (s.phase ≠ .start → exec .frameStart s = .refused .primitiveOutOfPlace) ∧
    (s.phase ≠ .quiet → exec .frameEnd s = .refused .primitiveOutOfPlace) ∧
    (s.sr.getLsbD 25 = false ∨ (s.phase ≠ .bitLow ∧ s.phase ≠ .bitHigh) → exec .logicOne s = .refused .primitiveOutOfPlace) ∧
    (s.sr.getLsbD 25 = true ∨ (s.phase ≠ .bitLow ∧ s.phase ≠ .bitHigh) → exec .logicZero s = .refused .primitiveOutOfPlace)

/-- R37, R73, R129: a hold lasts the cycles its timer was loaded with, and nothing but a reset pauses, stretches or cuts
it. -/
def Obligations.HoldRunsItsLength : Prop :=
  ∀ (s : State) (n : Nat), s.rst = false → s.busy = true → noResetNext s.queue = true → n < s.tmr →
    ∃ t, runCycles n s = .next t ∧ t.phase = s.phase ∧ t.dout = s.dout ∧ t.tmr = s.tmr - n ∧ t.sr = s.sr ∧
      t.bitcnt = s.bitcnt ∧ t.queue = s.queue

/-! ### The waveform of a frame -/

/-- R74: a transmitting command accepted in cycle `n` puts `Wave(F)` on the line in cycles `n+1 .. n+K*Len(F)`, the
block is busy in exactly those cycles, and the next one is idle and presents DONE, unless the host resets. -/
def Obligations.AcceptedCommandSendsItsWave : Prop :=
  ∀ (s : State) (w : CommandWord) (q : List HostOp) (f : FrameBits), s.atRest → s.queue = .issue w :: q →
    noResetNext q = true → Transmits s (decodeCommand w) f →
    ∃ t, step s = .next t ∧
      trace (s.inst.ticksPerUs * frameUs s.timing f) t = sample s.inst.ticksPerUs (wave s.timing f) ∧
      (∀ m, m < s.inst.ticksPerUs * frameUs s.timing f → ∃ u, runCycles m t = .next u ∧ u.busy = true ∧ u.rspValid = false) ∧
      ∃ u, runCycles (s.inst.ticksPerUs * frameUs s.timing f) t = .next u ∧
        u.atRest ∧ u.rspValid = true ∧ u.rspCode = 0 ∧ u.rspData = 0 ∧ u.rspOwed = false ∧ u.sr = 0 ∧ u.bitcnt = 0 ∧
        u.queue = q ∧ SameConfig s u

/-- R41, R81, R84, R90: SET_COLORs presented one after the other, each after any gap (`o.1` idle cycles more than the
handshake needs), put their frames on the line in that order, each after its gap and one LOW cycle, and are each answered
DONE once. -/
def Obligations.FramesFollowInAcceptanceOrder : Prop :=
  ∀ (ops : List (Nat × Pos × Intensity × Color)) (s : State), s.atRest → s.rspValid = false →
    s.queue = ops.flatMap (fun o => pauseOps o.1 ++ [.issue (setColorWord o.2.1 o.2.2.1 o.2.2.2)]) →
    let k := s.inst.ticksPerUs
    let frameOfOp := fun o : Nat × Pos × Intensity × Color => frameOf o.2.1 o.2.2.1 o.2.2.2
    let cycles := (ops.map fun o => o.1 + 1 + k * frameUs s.timing (frameOfOp o)).sum
    trace cycles s = ops.flatMap (fun o => List.replicate (o.1 + 1) false ++ sample k (wave s.timing (frameOfOp o))) ∧
    responses (cycles + 1) s = List.replicate ops.length (0, 0) ∧
    ∃ u, runCycles cycles s = .next u ∧ u.atRest ∧ u.queue = []

/-- R90, R91, R74: what a `fillRange` shows on the line: after the cycle of the call, the waves of its frames in
ascending order, each after at least one LOW cycle, and nothing else; then the block is at rest again. How long the
gaps are is free (log 7); that a call takes a cycle is the model's choice (log 27). -/
def Obligations.FillRangeReachesTheLine : Prop :=
  ∀ (b n : BitVec 8) (i : Intensity) (c : Color) (s : State), s.atRest → s.queue = [.call (.fillRange b n i c)] →
    ∃ gaps : Nat → Nat,
      let k := s.inst.ticksPerUs
      let frameAt := fun j : Nat => frameOf (BitVec.ofNat 8 (b.toNat + j)) i c
      let cycles := 1 + ((List.range n.toNat).map fun j => gaps j + 1 + k * frameUs s.timing (frameAt j)).sum
      trace cycles s =
        false :: (List.range n.toNat).flatMap (fun j =>
          List.replicate (gaps j + 1) false ++ sample k (wave s.timing (frameAt j))) ∧
      ∃ u, runCycles cycles s = .next u ∧ u.atRest ∧ u.queue = []

/-- R83, R159: the length of a frame by its number of ones; at the default timing it is 820 µs for every frame. -/
def Obligations.FrameLengthFormula : Prop :=
  ∀ (t : TimingConfig) (f : FrameBits),
    frameUs t f = t.startHigh.toNat + onesOf f * (t.oneLow.toNat + t.oneHigh.toNat) +
      (26 - onesOf f) * (t.zeroLow.toNat + t.zeroHigh.toNat) + t.endLow.toNat ∧
    onesOf f ≤ 26 ∧ frameUs TimingConfig.default f = 820

/-- R74: a frame has 54 segments, already normalised; with a legal timing its trace has 27 rising and 27 falling edges
from the idle LOW before it. -/
def Obligations.WaveShape : Prop :=
  ∀ (t : TimingConfig) (f : FrameBits) (k : Nat),
    (wave t f).length = 54 ∧ normalised (wave t f) = true ∧
    (t.legal = true → 1 ≤ k →
      risingEdges false (sample k (wave t f)) = 27 ∧ fallingEdges false (sample k (wave t f)) = 27)

/-- R65 to R68, R71, R74: what each primitive's pseudocode shows from the level the one before leaves, that each
leaves the line LOW, and that a frame's primitives one after the other show `Wave(F)`. -/
def Obligations.WaveIsItsPrimitives : Prop :=
  ∀ (t : TimingConfig) (f : FrameBits) (v : Bool),
    segmentsOf v (frameStartEvents t) = [high t.startHigh] ∧ levelAfter v (frameStartEvents t) = false ∧
    segmentsOf v (logicOneEvents t) = [low t.oneLow, high t.oneHigh] ∧ levelAfter v (logicOneEvents t) = false ∧
    segmentsOf v (logicZeroEvents t) = [low t.zeroLow, high t.zeroHigh] ∧ levelAfter v (logicZeroEvents t) = false ∧
    segmentsOf v (frameEndEvents t) = [low t.endLow] ∧ levelAfter v (frameEndEvents t) = false ∧
    segmentsOf v (frameEvents t f) = wave t f

/-! ### Frames: what each row leaves unchanged -/

/-- R38, R53, R76 to R78, R131: the commands, the frame and the response leave the configuration, the pins and the
host alone; the transmitting ones leave the response alone, the answering ones everything but the response. -/
def Obligations.CommandRowsFrame : Prop :=
  (∀ (p : Pos) (a : BitVec 6) (i : Intensity) (c : Color) (s t : State),
    ∀ j ∈ [Instr.setColor p i c, .frame a i c],
      exec j s = .next t → SameConfig s t ∧ SamePins s t ∧ SameHost s t ∧ SameResponse s t) ∧
  (∀ (p : Pos) (i : Intensity) (c : Color) (s t : State), exec (.setColorIfInRange p i c) s = .next t →
    SameConfig s t ∧ SamePins s t ∧ SameHost s t ∧
      (if p.toNat < s.lightCount.toNat then SameResponse s t else SameDatapath s t)) ∧
  (∀ (x : BitVec 28) (y : BitVec 31) (k : RspCode) (d : BitVec 8) (s t : State),
    ∀ j ∈ [Instr.getLightCount x, .reservedOp0 x, .reservedOp4 x, .reservedOp5 x, .reservedOp6 x, .reservedOp7 x,
        .reservedRsv1 y, .rsp k d],
      exec j s = .next t → SameConfig s t ∧ SamePins s t ∧ SameHost s t ∧ SameDatapath s t)

/-- R11, R65 to R68, R72: the primitives leave the configuration, the pins and the host alone; the start pulse and the
cells leave the response and the owed DONE alone, the start pulse and the quiet period the shift register and the bit
count, and the quiet period the line. -/
def Obligations.PrimitiveRowsFrame : Prop :=
  (∀ s t : State, exec .frameStart s = .next t →
    SameConfig s t ∧ SamePins s t ∧ SameHost s t ∧ SameResponse s t ∧ t.rspOwed = s.rspOwed ∧ t.sr = s.sr ∧ t.bitcnt = s.bitcnt) ∧
  (∀ s t : State, ∀ j ∈ [Instr.logicOne, .logicZero], exec j s = .next t →
    SameConfig s t ∧ SamePins s t ∧ SameHost s t ∧ SameResponse s t ∧ t.rspOwed = s.rspOwed) ∧
  (∀ s t : State, exec .frameEnd s = .next t →
    SameConfig s t ∧ SamePins s t ∧ SameHost s t ∧ t.sr = s.sr ∧ t.bitcnt = s.bitcnt ∧ t.dout = s.dout)

/-- R3, R90, R119: the bulk operations touch nothing of the block, only the host's queue and its count of free values;
the colour functions touch nothing but the value they return. -/
def Obligations.HostRowsFrame : Prop :=
  (∀ (b n k : BitVec 8) (i : Intensity) (c : Color) (q d : BitVec 16) (f : ColorTable) (g : ColorIntensityTable)
    (form : SequenceForm) (r : Bool) (s t : State),
    ∀ j ∈ [Instr.fillRange b n i c, .fillRandom b n i, .fillSequenceColor b n q k i f,
        .fillSequenceColorIntensity b n q k g, .fillSequenceWholeString q k form, .enumerate r, .fadeIn d, .fadeOut d],
      exec j s = .next t → SameBlock s t ∧ t.retColor = s.retColor ∧ s.queue <:+ t.queue) ∧
  (∀ (r g b n : Nat) (h : BitVec 8) (s t : State),
    ∀ j ∈ [Instr.color r g b, .colorHue h, .rainbowColor n, .maxColor n],
      exec j s = .next t → SameBlock s t ∧ t.queue = s.queue ∧ t.freeIdx = s.freeIdx)

/-! ### The bulk operations -/

/-- R91: `fillRange` issues SET_COLOR for each address of the range, ascending, whatever the light count is, before
anything the host does afterwards. -/
def Obligations.FillRangeIssues : Prop :=
  ∀ (b n : BitVec 8) (i : Intensity) (c : Color) (s : State),
    ∃ t, exec (.fillRange b n i c) s = .next t ∧
      wordsOf t.queue =
        (List.range n.toNat).map (fun k => setColorWord (BitVec.ofNat 8 (b.toNat + k)) i c) ++ wordsOf s.queue

/-- R92: `fillRandom` does the same with `maxColor` of one free draw for each bulb, so with a colour of the six-colour
palette; nothing is said of the draw (log 9). -/
def Obligations.FillRandomIssues : Prop :=
  ∀ (b n : BitVec 8) (i : Intensity) (s : State),
    ∃ (t : State) (colors : Nat → Color), exec (.fillRandom b n i) s = .next t ∧
      wordsOf t.queue =
        (List.range n.toNat).map (fun k => setColorWord (BitVec.ofNat 8 (b.toNat + k)) i (colors k)) ++ wordsOf s.queue ∧
      (∀ k, colors k = maxColorFn s.inst.channelOrder (Config.draw (s.freeIdx + k))) ∧
      (∀ k, colors k ∈ [red, green, blue, cyan, magenta, yellow].map (fun named => named s.inst.channelOrder))

/-- R93: the colour-only `fillSequence`, last bulb of the range first, index `(sequence + k) / spanSize`. -/
def Obligations.FillSequenceColorIssues : Prop :=
  ∀ (b n : BitVec 8) (q : BitVec 16) (w : BitVec 8) (i : Intensity) (f : ColorTable) (s : State),
    (w = 0 → exec (.fillSequenceColor b n q w i f) s = .refused .spanSizeZero) ∧
    (w ≠ 0 → ∃ t, exec (.fillSequenceColor b n q w i f) s = .next t ∧
      wordsOf t.queue =
        (List.range n.toNat).reverse.map (fun k =>
          setColorWord (BitVec.ofNat 8 (b.toNat + k)) i (applyColorTable f ((q.toNat + k) / w.toNat))) ++ wordsOf s.queue)

/-- R94: the colour-and-intensity `fillSequence`. -/
def Obligations.FillSequenceColorIntensityIssues : Prop :=
  ∀ (b n : BitVec 8) (q : BitVec 16) (w : BitVec 8) (g : ColorIntensityTable) (s : State),
    (w = 0 → exec (.fillSequenceColorIntensity b n q w g) s = .refused .spanSizeZero) ∧
    (w ≠ 0 → ∃ t, exec (.fillSequenceColorIntensity b n q w g) s = .next t ∧
      wordsOf t.queue =
        (List.range n.toNat).reverse.map (fun k =>
          setColorWord (BitVec.ofNat 8 (b.toNat + k)) (applyColorIntensityTable g ((q.toNat + k) / w.toNat)).2
            (applyColorIntensityTable g ((q.toNat + k) / w.toNat)).1) ++ wordsOf s.queue)

/-- R95: the whole-string forms are the per-range forms with `begin = 0` and `count = LIGHT_COUNT`, last address
first; a light count of 0 sends nothing. -/
def Obligations.WholeStringIssues : Prop :=
  ∀ (q : BitVec 16) (w : BitVec 8) (i : Intensity) (f : ColorTable) (g : ColorIntensityTable) (s : State),
    exec (.fillSequenceWholeString q w (.colorOnly i f)) s = exec (.fillSequenceColor 0 s.lightCount q w i f) s ∧
    exec (.fillSequenceWholeString q w (.colorIntensity g)) s = exec (.fillSequenceColorIntensity 0 s.lightCount q w g) s ∧
    (w ≠ 0 → ∃ t u, exec (.fillSequenceWholeString q w (.colorOnly i f)) s = .next t ∧
      exec (.fillSequenceWholeString q w (.colorIntensity g)) s = .next u ∧
      wordsOf t.queue =
        (List.range s.lightCount.toNat).reverse.map (fun a =>
          setColorWord (BitVec.ofNat 8 a) i (applyColorTable f ((q.toNat + a) / w.toNat))) ++ wordsOf s.queue ∧
      wordsOf u.queue =
        (List.range s.lightCount.toNat).reverse.map (fun a =>
          setColorWord (BitVec.ofNat 8 a) (applyColorIntensityTable g ((q.toNat + a) / w.toNat)).2
            (applyColorIntensityTable g ((q.toNat + a) / w.toNat)).1) ++ wordsOf s.queue)

/-- R103: the pairs of address and index do not depend on the order of emission: an ascending iteration would send the
same frames in the opposite order. -/
def Obligations.SequenceIndexLaw : Prop :=
  ∀ (b n : BitVec 8) (q : BitVec 16) (w : BitVec 8) (i : Intensity) (f : ColorTable) (s t : State),
    s.queue = [] → exec (.fillSequenceColor b n q w i f) s = .next t →
      (wordsOf t.queue).length = n.toNat ∧
      (∀ k < n.toNat, (wordsOf t.queue).reverse[k]? =
        some (setColorWord (BitVec.ofNat 8 (b.toNat + k)) i (applyColorTable f ((q.toNat + k) / w.toNat))))

/-- R96: `enumerate` sends every bulb black at maximum intensity, up or down the addresses below the light count. -/
def Obligations.EnumerateIssues : Prop :=
  ∀ (r : Bool) (s : State),
    ∃ t, exec (.enumerate r) s = .next t ∧
      wordsOf t.queue =
        (if r then (List.range s.lightCount.toNat).reverse else List.range s.lightCount.toNat).map
          (fun a => setColorWord (BitVec.ofNat 8 a) s.inst.maxIntensity 0) ++ wordsOf s.queue

/-- R97: `fadeIn` sends address 63 black at the intensities 0 to 255, ascending, with at least `delayMs * 1000` µs of
the idle block between each two, and with `FADE_TRAILING_SLEEP` also before what the host presents next. -/
def Obligations.FadeInIssues : Prop :=
  ∀ (d : BitVec 16) (s : State),
    ∃ t, exec (.fadeIn d) s = .next t ∧
      wordsOf t.queue = (List.range 256).map (fun i => setColorWord 63 (BitVec.ofNat 8 i) 0) ++ wordsOf s.queue ∧
      (∀ j, 1 ≤ j → j ≤ 256 → (j = 256 → s.inst.fadeTrailingSleep = true) →
        ∀ e ∈ (issuesOf 0 t.queue)[j]?, d.toNat * 1000 * s.inst.ticksPerUs ≤ e.1)

/-- R98: `fadeOut` is the same with the intensities 255 to 0. -/
def Obligations.FadeOutIssues : Prop :=
  ∀ (d : BitVec 16) (s : State),
    ∃ t, exec (.fadeOut d) s = .next t ∧
      wordsOf t.queue = (List.range 256).map (fun j => setColorWord 63 (BitVec.ofNat 8 (255 - j)) 0) ++ wordsOf s.queue ∧
      (∀ j, 1 ≤ j → j ≤ 256 → (j = 256 → s.inst.fadeTrailingSleep = true) →
        ∀ e ∈ (issuesOf 0 t.queue)[j]?, d.toNat * 1000 * s.inst.ticksPerUs ≤ e.1)

/-- R101, R99 (log 19): the tables shut out no caller's function: on the indices of one call, each total function is
some table, and no index of a call is above 65789. -/
def Obligations.TablesRepresentEveryFunction : Prop :=
  (∀ (f : Nat → Color) (n : Nat), ∃ tab : ColorTable, ∀ j ≤ n, applyColorTable tab j = f j) ∧
  (∀ (g : Nat → Color × Intensity) (n : Nat), ∃ tab : ColorIntensityTable, ∀ j ≤ n, applyColorIntensityTable tab j = g j) ∧
  (∀ (q : BitVec 16) (w n : BitVec 8) (k : Nat), k < n.toNat → sequenceIndex q w k ≤ 65789)

/-! ### The colour functions -/

/-- R110: inside its domain `color` gives the three channels packed; under the default channel order that is
`r + 16 g + 256 b` (an order the spec marks as general knowledge, log 29). -/
def Obligations.ColorPacksChannels : Prop :=
  ∀ (r g b : Nat) (s : State), r ≤ 15 → g ≤ 15 → b ≤ 15 →
    ∃ c, exec (.color r g b) s = .next { s with retColor := c } ∧
      redOf s.inst.channelOrder c = r ∧ greenOf s.inst.channelOrder c = g ∧ blueOf s.inst.channelOrder c = b ∧
      (s.inst.channelOrder = .rgb → c.toNat = r + 16 * g + 256 * b)

/-- R111: an input above 15 is refused. -/
def Obligations.ColorAboveRangeIsRefused : Prop :=
  ∀ (r g b : Nat) (s : State), 15 < r ∨ 15 < g ∨ 15 < b → exec (.color r g b) s = .refused .channelOutOfRange

/-- R118: packing and unpacking are inverse to each other under every channel order; under the default one (log 29) the
channels are the three nibbles from the lowest up. -/
def Obligations.ColorRoundTrip : Prop :=
  ∀ o : ChannelOrder,
    (∀ r g b : Nat, r ≤ 15 → g ≤ 15 → b ≤ 15 →
      redOf o (packColor o r g b) = r ∧ greenOf o (packColor o r g b) = g ∧ blueOf o (packColor o r g b) = b) ∧
    (∀ c : Color, redOf o c ≤ 15 ∧ greenOf o c ≤ 15 ∧ blueOf o c ≤ 15 ∧
      packColor o (redOf o c) (greenOf o c) (blueOf o c) = c ∧
      (o = .rgb → redOf o c = (c.extractLsb' 0 4).toNat ∧ greenOf o c = (c.extractLsb' 4 4).toNat ∧
        blueOf o c = (c.extractLsb' 8 4).toNat))

/-- R112, R113: the hue table, written out for each sextant. -/
def Obligations.ColorHueTable : Prop :=
  ∀ (h : BitVec 8) (s : State), h.toNat ≤ 95 →
    ∃ c, exec (.colorHue h) s = .next { s with retColor := c } ∧ c =
      if h.toNat ≤ 15 then packColor s.inst.channelOrder h.toNat 15 0
      else if h.toNat ≤ 31 then packColor s.inst.channelOrder 15 (31 - h.toNat) 0
      else if h.toNat ≤ 47 then packColor s.inst.channelOrder 15 0 (h.toNat - 32)
      else if h.toNat ≤ 63 then packColor s.inst.channelOrder (63 - h.toNat) 0 15
      else if h.toNat ≤ 79 then packColor s.inst.channelOrder 0 (h.toNat - 64) 15
      else packColor s.inst.channelOrder 0 15 (95 - h.toNat)

/-- R114: `colorHue` has a value for the hues 0 to 95 only; from 96 on it is refused. -/
def Obligations.HueOutOfRangeIsRefused : Prop :=
  ∀ (h : BitVec 8) (s : State),
    (96 ≤ h.toNat → exec (.colorHue h) s = .refused .hueOutOfRange) ∧
    ((∃ t, exec (.colorHue h) s = .next t) ↔ h.toNat ≤ 95)

/-- R115, R117: the seven rainbow colours, by `index mod 7`; the period is 7. -/
def Obligations.RainbowColorTable : Prop :=
  ∀ (n : Nat) (s : State),
    let o := s.inst.channelOrder
    let seven := [packColor o 15 0 0, s.inst.colorOrange, packColor o 15 15 0, packColor o 0 15 0, packColor o 0 0 15,
      s.inst.colorIndigo, s.inst.colorViolet]
    (∃ c, seven[n % 7]? = some c ∧ exec (.rainbowColor n) s = .next { s with retColor := c }) ∧
    exec (.rainbowColor (n + 7)) s = exec (.rainbowColor n) s

/-- R116, R117: the six saturated colours, by `index mod 6`; the period is 6. -/
def Obligations.MaxColorTable : Prop :=
  ∀ (n : Nat) (s : State),
    let o := s.inst.channelOrder
    let six := [packColor o 15 0 0, packColor o 0 15 0, packColor o 0 0 15, packColor o 0 15 15, packColor o 15 0 15,
      packColor o 15 15 0]
    (∃ c, six[n % 6]? = some c ∧ exec (.maxColor n) s = .next { s with retColor := c }) ∧
    exec (.maxColor (n + 6)) s = exec (.maxColor n) s
end

