-- ==== Sys2Proof/Laws/State.lean ====
section
/-! SUPPORT. One lemma per field per named update of State, so that no proof unfolds a record update. -/

namespace Sys2Proof.Machine

@[simp] theorem State.clearRsp_phase (s : State) : (s.clearRsp).phase = s.phase := rfl
@[simp] theorem State.clearRsp_sr (s : State) : (s.clearRsp).sr = s.sr := rfl
@[simp] theorem State.clearRsp_bitcnt (s : State) : (s.clearRsp).bitcnt = s.bitcnt := rfl
@[simp] theorem State.clearRsp_tmr (s : State) : (s.clearRsp).tmr = s.tmr := rfl
@[simp] theorem State.clearRsp_dout (s : State) : (s.clearRsp).dout = s.dout := rfl
@[simp] theorem State.clearRsp_doutOe (s : State) : (s.clearRsp).doutOe = s.doutOe := rfl
@[simp] theorem State.clearRsp_rspValid (s : State) : (s.clearRsp).rspValid = false := rfl
@[simp] theorem State.clearRsp_rspCode (s : State) : (s.clearRsp).rspCode = s.rspCode := rfl
@[simp] theorem State.clearRsp_rspData (s : State) : (s.clearRsp).rspData = s.rspData := rfl
@[simp] theorem State.clearRsp_rspOwed (s : State) : (s.clearRsp).rspOwed = s.rspOwed := rfl
@[simp] theorem State.clearRsp_lightCount (s : State) : (s.clearRsp).lightCount = s.lightCount := rfl
@[simp] theorem State.clearRsp_outputLine (s : State) : (s.clearRsp).outputLine = s.outputLine := rfl
@[simp] theorem State.clearRsp_timing (s : State) : (s.clearRsp).timing = s.timing := rfl
@[simp] theorem State.clearRsp_inst (s : State) : (s.clearRsp).inst = s.inst := rfl
@[simp] theorem State.clearRsp_rstCycles (s : State) : (s.clearRsp).rstCycles = s.rstCycles := rfl
@[simp] theorem State.clearRsp_queue (s : State) : (s.clearRsp).queue = s.queue := rfl
@[simp] theorem State.clearRsp_retColor (s : State) : (s.clearRsp).retColor = s.retColor := rfl
@[simp] theorem State.clearRsp_freeIdx (s : State) : (s.clearRsp).freeIdx = s.freeIdx := rfl

@[simp] theorem State.respond_phase (code : RspCode) (data : BitVec 8) (s : State) : (s.respond code data).phase = s.phase := rfl
@[simp] theorem State.respond_sr (code : RspCode) (data : BitVec 8) (s : State) : (s.respond code data).sr = s.sr := rfl
@[simp] theorem State.respond_bitcnt (code : RspCode) (data : BitVec 8) (s : State) : (s.respond code data).bitcnt = s.bitcnt := rfl
@[simp] theorem State.respond_tmr (code : RspCode) (data : BitVec 8) (s : State) : (s.respond code data).tmr = s.tmr := rfl
@[simp] theorem State.respond_dout (code : RspCode) (data : BitVec 8) (s : State) : (s.respond code data).dout = s.dout := rfl
@[simp] theorem State.respond_doutOe (code : RspCode) (data : BitVec 8) (s : State) : (s.respond code data).doutOe = s.doutOe := rfl
@[simp] theorem State.respond_rspValid (code : RspCode) (data : BitVec 8) (s : State) : (s.respond code data).rspValid = true := rfl
@[simp] theorem State.respond_rspCode (code : RspCode) (data : BitVec 8) (s : State) : (s.respond code data).rspCode = rspCodeBits code := rfl
@[simp] theorem State.respond_rspData (code : RspCode) (data : BitVec 8) (s : State) : (s.respond code data).rspData = data := rfl
@[simp] theorem State.respond_rspOwed (code : RspCode) (data : BitVec 8) (s : State) : (s.respond code data).rspOwed = s.rspOwed := rfl
@[simp] theorem State.respond_lightCount (code : RspCode) (data : BitVec 8) (s : State) : (s.respond code data).lightCount = s.lightCount := rfl
@[simp] theorem State.respond_outputLine (code : RspCode) (data : BitVec 8) (s : State) : (s.respond code data).outputLine = s.outputLine := rfl
@[simp] theorem State.respond_timing (code : RspCode) (data : BitVec 8) (s : State) : (s.respond code data).timing = s.timing := rfl
@[simp] theorem State.respond_inst (code : RspCode) (data : BitVec 8) (s : State) : (s.respond code data).inst = s.inst := rfl
@[simp] theorem State.respond_rstCycles (code : RspCode) (data : BitVec 8) (s : State) : (s.respond code data).rstCycles = s.rstCycles := rfl
@[simp] theorem State.respond_queue (code : RspCode) (data : BitVec 8) (s : State) : (s.respond code data).queue = s.queue := rfl
@[simp] theorem State.respond_retColor (code : RspCode) (data : BitVec 8) (s : State) : (s.respond code data).retColor = s.retColor := rfl
@[simp] theorem State.respond_freeIdx (code : RspCode) (data : BitVec 8) (s : State) : (s.respond code data).freeIdx = s.freeIdx := rfl

@[simp] theorem State.startFrame_phase (f : FrameBits) (s : State) : (s.startFrame f).phase = .start := rfl
@[simp] theorem State.startFrame_sr (f : FrameBits) (s : State) : (s.startFrame f).sr = f := rfl
@[simp] theorem State.startFrame_bitcnt (f : FrameBits) (s : State) : (s.startFrame f).bitcnt = 26 := rfl
@[simp] theorem State.startFrame_tmr (f : FrameBits) (s : State) : (s.startFrame f).tmr = s.ticks s.timing.startHigh := rfl
@[simp] theorem State.startFrame_dout (f : FrameBits) (s : State) : (s.startFrame f).dout = true := rfl
@[simp] theorem State.startFrame_doutOe (f : FrameBits) (s : State) : (s.startFrame f).doutOe = s.doutOe := rfl
@[simp] theorem State.startFrame_rspValid (f : FrameBits) (s : State) : (s.startFrame f).rspValid = s.rspValid := rfl
@[simp] theorem State.startFrame_rspCode (f : FrameBits) (s : State) : (s.startFrame f).rspCode = s.rspCode := rfl
@[simp] theorem State.startFrame_rspData (f : FrameBits) (s : State) : (s.startFrame f).rspData = s.rspData := rfl
@[simp] theorem State.startFrame_rspOwed (f : FrameBits) (s : State) : (s.startFrame f).rspOwed = true := rfl
@[simp] theorem State.startFrame_lightCount (f : FrameBits) (s : State) : (s.startFrame f).lightCount = s.lightCount := rfl
@[simp] theorem State.startFrame_outputLine (f : FrameBits) (s : State) : (s.startFrame f).outputLine = s.outputLine := rfl
@[simp] theorem State.startFrame_timing (f : FrameBits) (s : State) : (s.startFrame f).timing = s.timing := rfl
@[simp] theorem State.startFrame_inst (f : FrameBits) (s : State) : (s.startFrame f).inst = s.inst := rfl
@[simp] theorem State.startFrame_rstCycles (f : FrameBits) (s : State) : (s.startFrame f).rstCycles = s.rstCycles := rfl
@[simp] theorem State.startFrame_queue (f : FrameBits) (s : State) : (s.startFrame f).queue = s.queue := rfl
@[simp] theorem State.startFrame_retColor (f : FrameBits) (s : State) : (s.startFrame f).retColor = s.retColor := rfl
@[simp] theorem State.startFrame_freeIdx (f : FrameBits) (s : State) : (s.startFrame f).freeIdx = s.freeIdx := rfl

@[simp] theorem State.enterLow_phase (b : Bool) (s : State) : (s.enterLow b).phase = .bitLow := rfl
@[simp] theorem State.enterLow_sr (b : Bool) (s : State) : (s.enterLow b).sr = s.sr := rfl
@[simp] theorem State.enterLow_bitcnt (b : Bool) (s : State) : (s.enterLow b).bitcnt = s.bitcnt := rfl
@[simp] theorem State.enterLow_tmr (b : Bool) (s : State) : (s.enterLow b).tmr = s.ticks (lowUs s.timing b) := rfl
@[simp] theorem State.enterLow_dout (b : Bool) (s : State) : (s.enterLow b).dout = false := rfl
@[simp] theorem State.enterLow_doutOe (b : Bool) (s : State) : (s.enterLow b).doutOe = s.doutOe := rfl
@[simp] theorem State.enterLow_rspValid (b : Bool) (s : State) : (s.enterLow b).rspValid = s.rspValid := rfl
@[simp] theorem State.enterLow_rspCode (b : Bool) (s : State) : (s.enterLow b).rspCode = s.rspCode := rfl
@[simp] theorem State.enterLow_rspData (b : Bool) (s : State) : (s.enterLow b).rspData = s.rspData := rfl
@[simp] theorem State.enterLow_rspOwed (b : Bool) (s : State) : (s.enterLow b).rspOwed = s.rspOwed := rfl
@[simp] theorem State.enterLow_lightCount (b : Bool) (s : State) : (s.enterLow b).lightCount = s.lightCount := rfl
@[simp] theorem State.enterLow_outputLine (b : Bool) (s : State) : (s.enterLow b).outputLine = s.outputLine := rfl
@[simp] theorem State.enterLow_timing (b : Bool) (s : State) : (s.enterLow b).timing = s.timing := rfl
@[simp] theorem State.enterLow_inst (b : Bool) (s : State) : (s.enterLow b).inst = s.inst := rfl
@[simp] theorem State.enterLow_rstCycles (b : Bool) (s : State) : (s.enterLow b).rstCycles = s.rstCycles := rfl
@[simp] theorem State.enterLow_queue (b : Bool) (s : State) : (s.enterLow b).queue = s.queue := rfl
@[simp] theorem State.enterLow_retColor (b : Bool) (s : State) : (s.enterLow b).retColor = s.retColor := rfl
@[simp] theorem State.enterLow_freeIdx (b : Bool) (s : State) : (s.enterLow b).freeIdx = s.freeIdx := rfl

@[simp] theorem State.enterHigh_phase (b : Bool) (s : State) : (s.enterHigh b).phase = .bitHigh := rfl
@[simp] theorem State.enterHigh_sr (b : Bool) (s : State) : (s.enterHigh b).sr = s.sr := rfl
@[simp] theorem State.enterHigh_bitcnt (b : Bool) (s : State) : (s.enterHigh b).bitcnt = s.bitcnt := rfl
@[simp] theorem State.enterHigh_tmr (b : Bool) (s : State) : (s.enterHigh b).tmr = s.ticks (highUs s.timing b) := rfl
@[simp] theorem State.enterHigh_dout (b : Bool) (s : State) : (s.enterHigh b).dout = true := rfl
@[simp] theorem State.enterHigh_doutOe (b : Bool) (s : State) : (s.enterHigh b).doutOe = s.doutOe := rfl
@[simp] theorem State.enterHigh_rspValid (b : Bool) (s : State) : (s.enterHigh b).rspValid = s.rspValid := rfl
@[simp] theorem State.enterHigh_rspCode (b : Bool) (s : State) : (s.enterHigh b).rspCode = s.rspCode := rfl
@[simp] theorem State.enterHigh_rspData (b : Bool) (s : State) : (s.enterHigh b).rspData = s.rspData := rfl
@[simp] theorem State.enterHigh_rspOwed (b : Bool) (s : State) : (s.enterHigh b).rspOwed = s.rspOwed := rfl
@[simp] theorem State.enterHigh_lightCount (b : Bool) (s : State) : (s.enterHigh b).lightCount = s.lightCount := rfl
@[simp] theorem State.enterHigh_outputLine (b : Bool) (s : State) : (s.enterHigh b).outputLine = s.outputLine := rfl
@[simp] theorem State.enterHigh_timing (b : Bool) (s : State) : (s.enterHigh b).timing = s.timing := rfl
@[simp] theorem State.enterHigh_inst (b : Bool) (s : State) : (s.enterHigh b).inst = s.inst := rfl
@[simp] theorem State.enterHigh_rstCycles (b : Bool) (s : State) : (s.enterHigh b).rstCycles = s.rstCycles := rfl
@[simp] theorem State.enterHigh_queue (b : Bool) (s : State) : (s.enterHigh b).queue = s.queue := rfl
@[simp] theorem State.enterHigh_retColor (b : Bool) (s : State) : (s.enterHigh b).retColor = s.retColor := rfl
@[simp] theorem State.enterHigh_freeIdx (b : Bool) (s : State) : (s.enterHigh b).freeIdx = s.freeIdx := rfl

@[simp] theorem State.enterQuiet_phase (s : State) : (s.enterQuiet).phase = .quiet := rfl
@[simp] theorem State.enterQuiet_sr (s : State) : (s.enterQuiet).sr = s.sr := rfl
@[simp] theorem State.enterQuiet_bitcnt (s : State) : (s.enterQuiet).bitcnt = s.bitcnt := rfl
@[simp] theorem State.enterQuiet_tmr (s : State) : (s.enterQuiet).tmr = s.ticks s.timing.endLow := rfl
@[simp] theorem State.enterQuiet_dout (s : State) : (s.enterQuiet).dout = false := rfl
@[simp] theorem State.enterQuiet_doutOe (s : State) : (s.enterQuiet).doutOe = s.doutOe := rfl
@[simp] theorem State.enterQuiet_rspValid (s : State) : (s.enterQuiet).rspValid = s.rspValid := rfl
@[simp] theorem State.enterQuiet_rspCode (s : State) : (s.enterQuiet).rspCode = s.rspCode := rfl
@[simp] theorem State.enterQuiet_rspData (s : State) : (s.enterQuiet).rspData = s.rspData := rfl
@[simp] theorem State.enterQuiet_rspOwed (s : State) : (s.enterQuiet).rspOwed = s.rspOwed := rfl
@[simp] theorem State.enterQuiet_lightCount (s : State) : (s.enterQuiet).lightCount = s.lightCount := rfl
@[simp] theorem State.enterQuiet_outputLine (s : State) : (s.enterQuiet).outputLine = s.outputLine := rfl
@[simp] theorem State.enterQuiet_timing (s : State) : (s.enterQuiet).timing = s.timing := rfl
@[simp] theorem State.enterQuiet_inst (s : State) : (s.enterQuiet).inst = s.inst := rfl
@[simp] theorem State.enterQuiet_rstCycles (s : State) : (s.enterQuiet).rstCycles = s.rstCycles := rfl
@[simp] theorem State.enterQuiet_queue (s : State) : (s.enterQuiet).queue = s.queue := rfl
@[simp] theorem State.enterQuiet_retColor (s : State) : (s.enterQuiet).retColor = s.retColor := rfl
@[simp] theorem State.enterQuiet_freeIdx (s : State) : (s.enterQuiet).freeIdx = s.freeIdx := rfl

@[simp] theorem State.shiftBit_phase (s : State) : (s.shiftBit).phase = s.phase := rfl
@[simp] theorem State.shiftBit_sr (s : State) : (s.shiftBit).sr = s.sr <<< 1 := rfl
@[simp] theorem State.shiftBit_bitcnt (s : State) : (s.shiftBit).bitcnt = s.bitcnt - 1 := rfl
@[simp] theorem State.shiftBit_tmr (s : State) : (s.shiftBit).tmr = s.tmr := rfl
@[simp] theorem State.shiftBit_dout (s : State) : (s.shiftBit).dout = s.dout := rfl
@[simp] theorem State.shiftBit_doutOe (s : State) : (s.shiftBit).doutOe = s.doutOe := rfl
@[simp] theorem State.shiftBit_rspValid (s : State) : (s.shiftBit).rspValid = s.rspValid := rfl
@[simp] theorem State.shiftBit_rspCode (s : State) : (s.shiftBit).rspCode = s.rspCode := rfl
@[simp] theorem State.shiftBit_rspData (s : State) : (s.shiftBit).rspData = s.rspData := rfl
@[simp] theorem State.shiftBit_rspOwed (s : State) : (s.shiftBit).rspOwed = s.rspOwed := rfl
@[simp] theorem State.shiftBit_lightCount (s : State) : (s.shiftBit).lightCount = s.lightCount := rfl
@[simp] theorem State.shiftBit_outputLine (s : State) : (s.shiftBit).outputLine = s.outputLine := rfl
@[simp] theorem State.shiftBit_timing (s : State) : (s.shiftBit).timing = s.timing := rfl
@[simp] theorem State.shiftBit_inst (s : State) : (s.shiftBit).inst = s.inst := rfl
@[simp] theorem State.shiftBit_rstCycles (s : State) : (s.shiftBit).rstCycles = s.rstCycles := rfl
@[simp] theorem State.shiftBit_queue (s : State) : (s.shiftBit).queue = s.queue := rfl
@[simp] theorem State.shiftBit_retColor (s : State) : (s.shiftBit).retColor = s.retColor := rfl
@[simp] theorem State.shiftBit_freeIdx (s : State) : (s.shiftBit).freeIdx = s.freeIdx := rfl

@[simp] theorem State.endFrame_phase (s : State) : (s.endFrame).phase = .idle := rfl
@[simp] theorem State.endFrame_sr (s : State) : (s.endFrame).sr = s.sr := rfl
@[simp] theorem State.endFrame_bitcnt (s : State) : (s.endFrame).bitcnt = s.bitcnt := rfl
@[simp] theorem State.endFrame_tmr (s : State) : (s.endFrame).tmr = s.tmr := rfl
@[simp] theorem State.endFrame_dout (s : State) : (s.endFrame).dout = s.dout := rfl
@[simp] theorem State.endFrame_doutOe (s : State) : (s.endFrame).doutOe = s.doutOe := rfl
@[simp] theorem State.endFrame_rspValid (s : State) : (s.endFrame).rspValid = true := rfl
@[simp] theorem State.endFrame_rspCode (s : State) : (s.endFrame).rspCode = 0 := rfl
@[simp] theorem State.endFrame_rspData (s : State) : (s.endFrame).rspData = 0 := rfl
@[simp] theorem State.endFrame_rspOwed (s : State) : (s.endFrame).rspOwed = false := rfl
@[simp] theorem State.endFrame_lightCount (s : State) : (s.endFrame).lightCount = s.lightCount := rfl
@[simp] theorem State.endFrame_outputLine (s : State) : (s.endFrame).outputLine = s.outputLine := rfl
@[simp] theorem State.endFrame_timing (s : State) : (s.endFrame).timing = s.timing := rfl
@[simp] theorem State.endFrame_inst (s : State) : (s.endFrame).inst = s.inst := rfl
@[simp] theorem State.endFrame_rstCycles (s : State) : (s.endFrame).rstCycles = s.rstCycles := rfl
@[simp] theorem State.endFrame_queue (s : State) : (s.endFrame).queue = s.queue := rfl
@[simp] theorem State.endFrame_retColor (s : State) : (s.endFrame).retColor = s.retColor := rfl
@[simp] theorem State.endFrame_freeIdx (s : State) : (s.endFrame).freeIdx = s.freeIdx := rfl

@[simp] theorem State.resetEdge_phase (s : State) : (s.resetEdge).phase = .idle := rfl
@[simp] theorem State.resetEdge_sr (s : State) : (s.resetEdge).sr = 0 := rfl
@[simp] theorem State.resetEdge_bitcnt (s : State) : (s.resetEdge).bitcnt = 0 := rfl
@[simp] theorem State.resetEdge_tmr (s : State) : (s.resetEdge).tmr = 0 := rfl
@[simp] theorem State.resetEdge_dout (s : State) : (s.resetEdge).dout = false := rfl
@[simp] theorem State.resetEdge_doutOe (s : State) : (s.resetEdge).doutOe = decide (s.rstCycles ≤ 1) := rfl
@[simp] theorem State.resetEdge_rspValid (s : State) : (s.resetEdge).rspValid = false := rfl
@[simp] theorem State.resetEdge_rspCode (s : State) : (s.resetEdge).rspCode = 0 := rfl
@[simp] theorem State.resetEdge_rspData (s : State) : (s.resetEdge).rspData = 0 := rfl
@[simp] theorem State.resetEdge_rspOwed (s : State) : (s.resetEdge).rspOwed = false := rfl
@[simp] theorem State.resetEdge_lightCount (s : State) : (s.resetEdge).lightCount = s.lightCount := rfl
@[simp] theorem State.resetEdge_outputLine (s : State) : (s.resetEdge).outputLine = s.outputLine := rfl
@[simp] theorem State.resetEdge_timing (s : State) : (s.resetEdge).timing = s.timing := rfl
@[simp] theorem State.resetEdge_inst (s : State) : (s.resetEdge).inst = s.inst := rfl
@[simp] theorem State.resetEdge_rstCycles (s : State) : (s.resetEdge).rstCycles = s.rstCycles - 1 := rfl
@[simp] theorem State.resetEdge_queue (s : State) : (s.resetEdge).queue = s.queue := rfl
@[simp] theorem State.resetEdge_retColor (s : State) : (s.resetEdge).retColor = s.retColor := rfl
@[simp] theorem State.resetEdge_freeIdx (s : State) : (s.resetEdge).freeIdx = s.freeIdx + 1 := rfl

@[simp] theorem State.raiseRst_phase (n : Nat) (s : State) : (s.raiseRst n).phase = s.phase := rfl
@[simp] theorem State.raiseRst_sr (n : Nat) (s : State) : (s.raiseRst n).sr = s.sr := rfl
@[simp] theorem State.raiseRst_bitcnt (n : Nat) (s : State) : (s.raiseRst n).bitcnt = s.bitcnt := rfl
@[simp] theorem State.raiseRst_tmr (n : Nat) (s : State) : (s.raiseRst n).tmr = s.tmr := rfl
@[simp] theorem State.raiseRst_dout (n : Nat) (s : State) : (s.raiseRst n).dout = s.dout := rfl
@[simp] theorem State.raiseRst_doutOe (n : Nat) (s : State) : (s.raiseRst n).doutOe = (s.doutOe && decide (n = 0)) := rfl
@[simp] theorem State.raiseRst_rspValid (n : Nat) (s : State) : (s.raiseRst n).rspValid = s.rspValid := rfl
@[simp] theorem State.raiseRst_rspCode (n : Nat) (s : State) : (s.raiseRst n).rspCode = s.rspCode := rfl
@[simp] theorem State.raiseRst_rspData (n : Nat) (s : State) : (s.raiseRst n).rspData = s.rspData := rfl
@[simp] theorem State.raiseRst_rspOwed (n : Nat) (s : State) : (s.raiseRst n).rspOwed = s.rspOwed := rfl
@[simp] theorem State.raiseRst_lightCount (n : Nat) (s : State) : (s.raiseRst n).lightCount = s.lightCount := rfl
@[simp] theorem State.raiseRst_outputLine (n : Nat) (s : State) : (s.raiseRst n).outputLine = s.outputLine := rfl
@[simp] theorem State.raiseRst_timing (n : Nat) (s : State) : (s.raiseRst n).timing = s.timing := rfl
@[simp] theorem State.raiseRst_inst (n : Nat) (s : State) : (s.raiseRst n).inst = s.inst := rfl
@[simp] theorem State.raiseRst_rstCycles (n : Nat) (s : State) : (s.raiseRst n).rstCycles = n := rfl
@[simp] theorem State.raiseRst_queue (n : Nat) (s : State) : (s.raiseRst n).queue = s.queue := rfl
@[simp] theorem State.raiseRst_retColor (n : Nat) (s : State) : (s.raiseRst n).retColor = s.retColor := rfl
@[simp] theorem State.raiseRst_freeIdx (n : Nat) (s : State) : (s.raiseRst n).freeIdx = s.freeIdx := rfl

@[simp] theorem State.setQueue_phase (q : List HostOp) (s : State) : (s.setQueue q).phase = s.phase := rfl
@[simp] theorem State.setQueue_sr (q : List HostOp) (s : State) : (s.setQueue q).sr = s.sr := rfl
@[simp] theorem State.setQueue_bitcnt (q : List HostOp) (s : State) : (s.setQueue q).bitcnt = s.bitcnt := rfl
@[simp] theorem State.setQueue_tmr (q : List HostOp) (s : State) : (s.setQueue q).tmr = s.tmr := rfl
@[simp] theorem State.setQueue_dout (q : List HostOp) (s : State) : (s.setQueue q).dout = s.dout := rfl
@[simp] theorem State.setQueue_doutOe (q : List HostOp) (s : State) : (s.setQueue q).doutOe = s.doutOe := rfl
@[simp] theorem State.setQueue_rspValid (q : List HostOp) (s : State) : (s.setQueue q).rspValid = s.rspValid := rfl
@[simp] theorem State.setQueue_rspCode (q : List HostOp) (s : State) : (s.setQueue q).rspCode = s.rspCode := rfl
@[simp] theorem State.setQueue_rspData (q : List HostOp) (s : State) : (s.setQueue q).rspData = s.rspData := rfl
@[simp] theorem State.setQueue_rspOwed (q : List HostOp) (s : State) : (s.setQueue q).rspOwed = s.rspOwed := rfl
@[simp] theorem State.setQueue_lightCount (q : List HostOp) (s : State) : (s.setQueue q).lightCount = s.lightCount := rfl
@[simp] theorem State.setQueue_outputLine (q : List HostOp) (s : State) : (s.setQueue q).outputLine = s.outputLine := rfl
@[simp] theorem State.setQueue_timing (q : List HostOp) (s : State) : (s.setQueue q).timing = s.timing := rfl
@[simp] theorem State.setQueue_inst (q : List HostOp) (s : State) : (s.setQueue q).inst = s.inst := rfl
@[simp] theorem State.setQueue_rstCycles (q : List HostOp) (s : State) : (s.setQueue q).rstCycles = s.rstCycles := rfl
@[simp] theorem State.setQueue_queue (q : List HostOp) (s : State) : (s.setQueue q).queue = q := rfl
@[simp] theorem State.setQueue_retColor (q : List HostOp) (s : State) : (s.setQueue q).retColor = s.retColor := rfl
@[simp] theorem State.setQueue_freeIdx (q : List HostOp) (s : State) : (s.setQueue q).freeIdx = s.freeIdx := rfl

@[simp] theorem State.startBulk_phase (ops : List BulkOp) (s : State) : (s.startBulk ops).phase = s.phase := rfl
@[simp] theorem State.startBulk_sr (ops : List BulkOp) (s : State) : (s.startBulk ops).sr = s.sr := rfl
@[simp] theorem State.startBulk_bitcnt (ops : List BulkOp) (s : State) : (s.startBulk ops).bitcnt = s.bitcnt := rfl
@[simp] theorem State.startBulk_tmr (ops : List BulkOp) (s : State) : (s.startBulk ops).tmr = s.tmr := rfl
@[simp] theorem State.startBulk_dout (ops : List BulkOp) (s : State) : (s.startBulk ops).dout = s.dout := rfl
@[simp] theorem State.startBulk_doutOe (ops : List BulkOp) (s : State) : (s.startBulk ops).doutOe = s.doutOe := rfl
@[simp] theorem State.startBulk_rspValid (ops : List BulkOp) (s : State) : (s.startBulk ops).rspValid = s.rspValid := rfl
@[simp] theorem State.startBulk_rspCode (ops : List BulkOp) (s : State) : (s.startBulk ops).rspCode = s.rspCode := rfl
@[simp] theorem State.startBulk_rspData (ops : List BulkOp) (s : State) : (s.startBulk ops).rspData = s.rspData := rfl
@[simp] theorem State.startBulk_rspOwed (ops : List BulkOp) (s : State) : (s.startBulk ops).rspOwed = s.rspOwed := rfl
@[simp] theorem State.startBulk_lightCount (ops : List BulkOp) (s : State) : (s.startBulk ops).lightCount = s.lightCount := rfl
@[simp] theorem State.startBulk_outputLine (ops : List BulkOp) (s : State) : (s.startBulk ops).outputLine = s.outputLine := rfl
@[simp] theorem State.startBulk_timing (ops : List BulkOp) (s : State) : (s.startBulk ops).timing = s.timing := rfl
@[simp] theorem State.startBulk_inst (ops : List BulkOp) (s : State) : (s.startBulk ops).inst = s.inst := rfl
@[simp] theorem State.startBulk_rstCycles (ops : List BulkOp) (s : State) : (s.startBulk ops).rstCycles = s.rstCycles := rfl
@[simp] theorem State.startBulk_queue (ops : List BulkOp) (s : State) : (s.startBulk ops).queue = schedule s.inst.ticksPerUs s.freeIdx ops ++ s.queue := rfl
@[simp] theorem State.startBulk_retColor (ops : List BulkOp) (s : State) : (s.startBulk ops).retColor = s.retColor := rfl
@[simp] theorem State.startBulk_freeIdx (ops : List BulkOp) (s : State) : (s.startBulk ops).freeIdx = s.freeIdx + sendCount ops := rfl

@[simp] theorem State.tookDraws_phase (n : Nat) (s : State) : (s.tookDraws n).phase = s.phase := rfl
@[simp] theorem State.tookDraws_sr (n : Nat) (s : State) : (s.tookDraws n).sr = s.sr := rfl
@[simp] theorem State.tookDraws_bitcnt (n : Nat) (s : State) : (s.tookDraws n).bitcnt = s.bitcnt := rfl
@[simp] theorem State.tookDraws_tmr (n : Nat) (s : State) : (s.tookDraws n).tmr = s.tmr := rfl
@[simp] theorem State.tookDraws_dout (n : Nat) (s : State) : (s.tookDraws n).dout = s.dout := rfl
@[simp] theorem State.tookDraws_doutOe (n : Nat) (s : State) : (s.tookDraws n).doutOe = s.doutOe := rfl
@[simp] theorem State.tookDraws_rspValid (n : Nat) (s : State) : (s.tookDraws n).rspValid = s.rspValid := rfl
@[simp] theorem State.tookDraws_rspCode (n : Nat) (s : State) : (s.tookDraws n).rspCode = s.rspCode := rfl
@[simp] theorem State.tookDraws_rspData (n : Nat) (s : State) : (s.tookDraws n).rspData = s.rspData := rfl
@[simp] theorem State.tookDraws_rspOwed (n : Nat) (s : State) : (s.tookDraws n).rspOwed = s.rspOwed := rfl
@[simp] theorem State.tookDraws_lightCount (n : Nat) (s : State) : (s.tookDraws n).lightCount = s.lightCount := rfl
@[simp] theorem State.tookDraws_outputLine (n : Nat) (s : State) : (s.tookDraws n).outputLine = s.outputLine := rfl
@[simp] theorem State.tookDraws_timing (n : Nat) (s : State) : (s.tookDraws n).timing = s.timing := rfl
@[simp] theorem State.tookDraws_inst (n : Nat) (s : State) : (s.tookDraws n).inst = s.inst := rfl
@[simp] theorem State.tookDraws_rstCycles (n : Nat) (s : State) : (s.tookDraws n).rstCycles = s.rstCycles := rfl
@[simp] theorem State.tookDraws_queue (n : Nat) (s : State) : (s.tookDraws n).queue = s.queue := rfl
@[simp] theorem State.tookDraws_retColor (n : Nat) (s : State) : (s.tookDraws n).retColor = s.retColor := rfl
@[simp] theorem State.tookDraws_freeIdx (n : Nat) (s : State) : (s.tookDraws n).freeIdx = s.freeIdx + n := rfl

@[simp] theorem State.returnColor_phase (c : Color) (s : State) : (s.returnColor c).phase = s.phase := rfl
@[simp] theorem State.returnColor_sr (c : Color) (s : State) : (s.returnColor c).sr = s.sr := rfl
@[simp] theorem State.returnColor_bitcnt (c : Color) (s : State) : (s.returnColor c).bitcnt = s.bitcnt := rfl
@[simp] theorem State.returnColor_tmr (c : Color) (s : State) : (s.returnColor c).tmr = s.tmr := rfl
@[simp] theorem State.returnColor_dout (c : Color) (s : State) : (s.returnColor c).dout = s.dout := rfl
@[simp] theorem State.returnColor_doutOe (c : Color) (s : State) : (s.returnColor c).doutOe = s.doutOe := rfl
@[simp] theorem State.returnColor_rspValid (c : Color) (s : State) : (s.returnColor c).rspValid = s.rspValid := rfl
@[simp] theorem State.returnColor_rspCode (c : Color) (s : State) : (s.returnColor c).rspCode = s.rspCode := rfl
@[simp] theorem State.returnColor_rspData (c : Color) (s : State) : (s.returnColor c).rspData = s.rspData := rfl
@[simp] theorem State.returnColor_rspOwed (c : Color) (s : State) : (s.returnColor c).rspOwed = s.rspOwed := rfl
@[simp] theorem State.returnColor_lightCount (c : Color) (s : State) : (s.returnColor c).lightCount = s.lightCount := rfl
@[simp] theorem State.returnColor_outputLine (c : Color) (s : State) : (s.returnColor c).outputLine = s.outputLine := rfl
@[simp] theorem State.returnColor_timing (c : Color) (s : State) : (s.returnColor c).timing = s.timing := rfl
@[simp] theorem State.returnColor_inst (c : Color) (s : State) : (s.returnColor c).inst = s.inst := rfl
@[simp] theorem State.returnColor_rstCycles (c : Color) (s : State) : (s.returnColor c).rstCycles = s.rstCycles := rfl
@[simp] theorem State.returnColor_queue (c : Color) (s : State) : (s.returnColor c).queue = s.queue := rfl
@[simp] theorem State.returnColor_retColor (c : Color) (s : State) : (s.returnColor c).retColor = c := rfl
@[simp] theorem State.returnColor_freeIdx (c : Color) (s : State) : (s.returnColor c).freeIdx = s.freeIdx := rfl

@[simp] theorem State.resetTick_phase (s : State) : (s.resetTick).phase = s.phase := by unfold State.resetTick; split <;> rfl
@[simp] theorem State.resetTick_sr (s : State) : (s.resetTick).sr = s.sr := by unfold State.resetTick; split <;> rfl
@[simp] theorem State.resetTick_bitcnt (s : State) : (s.resetTick).bitcnt = s.bitcnt := by unfold State.resetTick; split <;> rfl
@[simp] theorem State.resetTick_tmr (s : State) : (s.resetTick).tmr = s.tmr := by unfold State.resetTick; split <;> rfl
@[simp] theorem State.resetTick_dout (s : State) : (s.resetTick).dout = s.dout := by unfold State.resetTick; split <;> rfl
@[simp] theorem State.resetTick_rspValid (s : State) : (s.resetTick).rspValid = s.rspValid := by unfold State.resetTick; split <;> rfl
@[simp] theorem State.resetTick_rspCode (s : State) : (s.resetTick).rspCode = s.rspCode := by unfold State.resetTick; split <;> rfl
@[simp] theorem State.resetTick_rspData (s : State) : (s.resetTick).rspData = s.rspData := by unfold State.resetTick; split <;> rfl
@[simp] theorem State.resetTick_rspOwed (s : State) : (s.resetTick).rspOwed = s.rspOwed := by unfold State.resetTick; split <;> rfl
@[simp] theorem State.resetTick_lightCount (s : State) : (s.resetTick).lightCount = s.lightCount := by unfold State.resetTick; split <;> rfl
@[simp] theorem State.resetTick_outputLine (s : State) : (s.resetTick).outputLine = s.outputLine := by unfold State.resetTick; split <;> rfl
@[simp] theorem State.resetTick_timing (s : State) : (s.resetTick).timing = s.timing := by unfold State.resetTick; split <;> rfl
@[simp] theorem State.resetTick_inst (s : State) : (s.resetTick).inst = s.inst := by unfold State.resetTick; split <;> rfl
@[simp] theorem State.resetTick_retColor (s : State) : (s.resetTick).retColor = s.retColor := by unfold State.resetTick; split <;> rfl
@[simp] theorem State.resetTick_freeIdx (s : State) : (s.resetTick).freeIdx = s.freeIdx := by unfold State.resetTick; split <;> rfl

end Sys2Proof.Machine
end

