-- ==== Sys2Proof/Laws/Ops.lean ====
section
/-! SUPPORT. For each shared operation, once, everything it can do; the provers cite these instead of unfolding. -/

namespace Sys2Proof.Machine

theorem cmdReady_iff (s : State) : s.cmdReady = true ↔ s.phase = .idle ∧ s.rstCycles = 0 := by
  simp [State.cmdReady, State.busy, State.rst]

theorem busy_iff (s : State) : s.busy = true ↔ s.phase ≠ .idle := by
  simp [State.busy]

theorem rst_iff (s : State) : s.rst = true ↔ s.rstCycles ≠ 0 := by
  simp [State.rst]

/-- A ready port accepts. -/
theorem atPort_ready {s : State} (h : s.cmdReady = true) (t : State) : atPort s t = .next t := by
  simp [atPort, h]

/-- A port that is not ready leaves everything as it is. -/
theorem atPort_notReady {s : State} (h : s.cmdReady = false) (t : State) : atPort s t = .next s := by
  simp [atPort, h]

/-- Everything a command can do at the port. -/
theorem atPort_next {s t u : State} (h : atPort s t = .next u) :
    (s.cmdReady = true ∧ u = t) ∨ (s.cmdReady = false ∧ u = s) := by
  cases hr : s.cmdReady with
  | true => rw [atPort_ready hr] at h; cases h; exact .inl ⟨rfl, rfl⟩
  | false => rw [atPort_notReady hr] at h; cases h; exact .inr ⟨rfl, rfl⟩

/-- A hold that is not over only counts down. -/
theorem hold_running {s : State} (h : 1 < s.tmr) (t : State) : hold s t = { s with tmr := s.tmr - 1 } := by
  simp [hold, h]

/-- The last cycle of a hold ends the phase. -/
theorem hold_ended {s : State} (h : s.tmr ≤ 1) (t : State) : hold s t = t := by
  simp [hold, Nat.not_lt.mpr h]

/-- The last cell of a frame is followed by the quiet period. -/
theorem endCell_last {s : State} (h : s.bitcnt = 1) : s.endCell = s.shiftBit.enterQuiet :=
  if_pos h

/-- Every other cell is followed by the next cell. -/
theorem endCell_more {s : State} (h : s.bitcnt ≠ 1) : s.endCell = s.shiftBit.enterLow (s.sr.getLsbD 24) :=
  if_neg h

/-- One cycle of the LOW part of the cell being sent. -/
theorem cellCycle_low {b : Bool} {s : State} (hb : s.sr.getLsbD 25 = b) (hp : s.phase = .bitLow) :
    cellCycle b s = .next (hold s (s.enterHigh b)) := by
  unfold cellCycle
  rw [if_pos hb, hp]

/-- One cycle of the HIGH part of the cell being sent. -/
theorem cellCycle_high {b : Bool} {s : State} (hb : s.sr.getLsbD 25 = b) (hp : s.phase = .bitHigh) :
    cellCycle b s = .next (hold s s.endCell) := by
  unfold cellCycle
  rw [if_pos hb, hp]

/-- Everything one cycle of a bit cell can do. -/
theorem cellCycle_next {b : Bool} {s t : State} (h : cellCycle b s = .next t) :
    s.sr.getLsbD 25 = b ∧
      ((s.phase = .bitLow ∧ t = hold s (s.enterHigh b)) ∨ (s.phase = .bitHigh ∧ t = hold s s.endCell)) := by
  unfold cellCycle at h
  split at h
  · rename_i hb
    split at h
    · rename_i hp; cases h; exact ⟨hb, .inl ⟨hp, rfl⟩⟩
    · rename_i hp; cases h; exact ⟨hb, .inr ⟨hp, rfl⟩⟩
    · cases h
  · cases h

/-- Everything one cycle of the start pulse can do. -/
theorem execFrameStart_next {s t : State} (h : execFrameStart s = .next t) :
    s.phase = .start ∧ t = hold s (s.enterLow (s.sr.getLsbD 25)) := by
  unfold execFrameStart at h
  split at h
  · rename_i hp; cases h; exact ⟨hp, rfl⟩
  · cases h

/-- Everything one cycle of the quiet period can do. -/
theorem execFrameEnd_next {s t : State} (h : execFrameEnd s = .next t) :
    s.phase = .quiet ∧ t = hold s s.endFrame := by
  unfold execFrameEnd at h
  split at h
  · rename_i hp; cases h; exact ⟨hp, rfl⟩
  · cases h

/-- A sequence fill answers only where the span is not 0. -/
theorem requireSpan_next {n : BitVec 8} {s t : State} {ops : List BulkOp} (h : requireSpan n s ops = .next t) :
    n ≠ 0 ∧ t = s.startBulk ops := by
  unfold requireSpan at h
  split at h
  · cases h
  · rename_i hn; cases h; exact ⟨hn, rfl⟩

/-- A colour function answers only where it has a value. -/
theorem giveColor_next {v : Option Color} {r : Refusal} {s t : State} (h : giveColor v r s = .next t) :
    ∃ c, v = some c ∧ t = s.returnColor c := by
  unfold giveColor at h
  split at h
  · rename_i c; cases h; exact ⟨c, rfl, rfl⟩
  · cases h

/-- A bulk operation only presents words and lets cycles pass. -/
theorem mem_schedule {k n : Nat} {ops : List BulkOp} {op : HostOp} (h : op ∈ schedule k n ops) :
    (∃ w, op = .issue w) ∨ ∃ c, op = .pause c := by
  have pause : ∀ {c : Nat}, op ∈ pauseOps c → ∃ c, op = .pause c := by
    intro c hc
    unfold pauseOps at hc
    split at hc
    · cases hc
    · exact ⟨c, List.mem_singleton.mp hc⟩
  induction ops generalizing n with
  | nil => cases h
  | cons b rest ih =>
    cases b with
    | send p i c =>
      rcases List.mem_append.mp h with h | h
      · exact .inr (pause h)
      · rcases List.mem_cons.mp h with h | h
        · exact .inl ⟨_, h⟩
        · exact ih h
    | sleep ms =>
      rcases List.mem_append.mp h with h | h
      · exact .inr (pause h)
      · exact ih h

theorem sendCount_append (a b : List BulkOp) : sendCount (a ++ b) = sendCount a + sendCount b := by
  induction a with
  | nil => simp [sendCount]
  | cons op rest ih => cases op <;> simp [sendCount, ih]; omega

/-- The moves of two bulk operations one after the other are the moves of their concatenation. -/
theorem schedule_append (k n : Nat) (a b : List BulkOp) :
    schedule k n (a ++ b) = schedule k n a ++ schedule k (n + sendCount a) b := by
  induction a generalizing n with
  | nil => simp [schedule, sendCount]
  | cons op rest ih =>
    cases op with
    | send p i c => simp [schedule, sendCount, ih, Nat.add_assoc, Nat.add_comm 1]
    | sleep ms => simp [schedule, sendCount, ih]

end Sys2Proof.Machine
end

