-- ==== Sys2Proof/Laws/PerInstr.lean ====
section
/-! SUPPORT. One law of the syntax, per constructor: the word the encoder writes lies in the row of the opcode map
that spec/opcode_table.json gives the instruction (30_encoding R51), under its mask. -/

namespace Sys2Proof.Laws.OpcodeMatch

/-- A command word of the instruction matches its own row of R51; an instruction without a row has no command word. -/
def Statement (i : Instr) : Prop :=
  ∀ w, encode i = some (.c32 w) → ∃ row, opcodeRow i = some row ∧ w &&& row.mask = row.value

theorem commandWord_op (op : BitVec 3) (p : Pos) (i : Intensity) (c : Color) :
    commandWord op p i c &&& 0xF0000000 = 0#1 ++ op ++ 0#28 := by
  ext j hj
  simp only [commandWord, BitVec.getElem_and, BitVec.getElem_append]
  interval_cases j <;> simp

theorem operandlessWord_op (op : BitVec 3) (x : BitVec 28) :
    operandlessWord op x &&& 0xF0000000 = 0#1 ++ op ++ 0#28 := by
  ext j hj
  simp only [operandlessWord, BitVec.getElem_and, BitVec.getElem_append]
  interval_cases j <;> simp

theorem setColor (p : Pos) (i : Intensity) (c : Color) : Statement (.setColor p i c) := by
  intro w h
  cases h
  exact ⟨_, rfl, commandWord_op _ _ _ _⟩

theorem setColorIfInRange (p : Pos) (i : Intensity) (c : Color) : Statement (.setColorIfInRange p i c) := by
  intro w h
  cases h
  exact ⟨_, rfl, commandWord_op _ _ _ _⟩

theorem getLightCount (x : BitVec 28) : Statement (.getLightCount x) := by
  intro w h
  cases h
  exact ⟨_, rfl, operandlessWord_op _ _⟩

theorem reservedOp0 (x : BitVec 28) : Statement (.reservedOp0 x) := by
  intro w h
  cases h
  exact ⟨_, rfl, operandlessWord_op _ _⟩

theorem reservedOp4 (x : BitVec 28) : Statement (.reservedOp4 x) := by
  intro w h
  cases h
  exact ⟨_, rfl, operandlessWord_op _ _⟩

theorem reservedOp5 (x : BitVec 28) : Statement (.reservedOp5 x) := by
  intro w h
  cases h
  exact ⟨_, rfl, operandlessWord_op _ _⟩

theorem reservedOp6 (x : BitVec 28) : Statement (.reservedOp6 x) := by
  intro w h
  cases h
  exact ⟨_, rfl, operandlessWord_op _ _⟩

theorem reservedOp7 (x : BitVec 28) : Statement (.reservedOp7 x) := by
  intro w h
  cases h
  exact ⟨_, rfl, operandlessWord_op _ _⟩

theorem reservedRsv1 (x : BitVec 31) : Statement (.reservedRsv1 x) := by
  intro w h
  cases h
  refine ⟨_, rfl, ?_⟩
  ext j hj
  simp only [BitVec.getElem_and, BitVec.getElem_append]
  interval_cases j <;> simp

theorem frame (a : BitVec 6) (i : Intensity) (c : Color) : Statement (.frame a i c) := by
  intro w h
  simp [encode] at h

theorem frameStart : Statement (.frameStart) := by
  intro w h
  simp [encode] at h

theorem logicOne : Statement (.logicOne) := by
  intro w h
  simp [encode] at h

theorem logicZero : Statement (.logicZero) := by
  intro w h
  simp [encode] at h

theorem frameEnd : Statement (.frameEnd) := by
  intro w h
  simp [encode] at h

theorem fillRange (b n : BitVec 8) (i : Intensity) (c : Color) : Statement (.fillRange b n i c) := by
  intro w h
  simp [encode] at h

theorem fillRandom (b n : BitVec 8) (i : Intensity) : Statement (.fillRandom b n i) := by
  intro w h
  simp [encode] at h

theorem fillSequenceColor (b n : BitVec 8) (q : BitVec 16) (k : BitVec 8) (i : Intensity) (f : ColorTable) : Statement (.fillSequenceColor b n q k i f) := by
  intro w h
  simp [encode] at h

theorem fillSequenceColorIntensity (b n : BitVec 8) (q : BitVec 16) (k : BitVec 8) (g : ColorIntensityTable) : Statement (.fillSequenceColorIntensity b n q k g) := by
  intro w h
  simp [encode] at h

theorem fillSequenceWholeString (q : BitVec 16) (k : BitVec 8) (f : SequenceForm) : Statement (.fillSequenceWholeString q k f) := by
  intro w h
  simp [encode] at h

theorem enumerate (r : Bool) : Statement (.enumerate r) := by
  intro w h
  simp [encode] at h

theorem fadeIn (d : BitVec 16) : Statement (.fadeIn d) := by
  intro w h
  simp [encode] at h

theorem fadeOut (d : BitVec 16) : Statement (.fadeOut d) := by
  intro w h
  simp [encode] at h

theorem color (r g b : Nat) : Statement (.color r g b) := by
  intro w h
  simp [encode] at h

theorem colorHue (h : BitVec 8) : Statement (.colorHue h) := by
  intro w h
  simp [encode] at h

theorem rainbowColor (n : Nat) : Statement (.rainbowColor n) := by
  intro w h
  simp [encode] at h

theorem maxColor (n : Nat) : Statement (.maxColor n) := by
  intro w h
  simp [encode] at h

theorem rsp (k : RspCode) (d : BitVec 8) : Statement (.rsp k d) := by
  intro w h
  simp [encode] at h

end Sys2Proof.Laws.OpcodeMatch
end

