-- ==== Sys2Proof/Laws/Step.lean ====
section
/-! SUPPORT. What one clock cycle can do, said once. -/

namespace Sys2Proof.Machine

/-- Where something runs, the step is its execution, and the host's reset goes on. -/
theorem step_of_runs {s t : State} {i : Instr} (h : activity s = .runs i t) : step s = thenResetTick (exec i t) := by
  simp [step, h]

/-- Where nothing runs, the step is the idle edge. -/
theorem step_of_idles {s t : State} (h : activity s = .idles t) : step s = .next t := by
  simp [step, h]

/-- A cycle under reset. -/
theorem activity_reset {s : State} (h : s.rstCycles ≠ 0) : activity s = .idles s.resetEdge := by
  simp [activity, State.rst, h]

/-- A cycle with a frame in flight. -/
theorem activity_symbol {s : State} {i : Instr} (hr : s.rstCycles = 0) (h : currentSymbol s = some i) :
    activity s = .runs i s.clearRsp := by
  simp [activity, State.rst, hr, h]

theorem currentSymbol_none_iff (s : State) : currentSymbol s = none ↔ s.phase = .idle := by
  unfold currentSymbol
  cases s.phase <;> simp

/-- A cycle of the idle block. -/
theorem activity_idle {s : State} (hr : s.rstCycles = 0) (h : s.phase = .idle) : activity s = hostActivity s := by
  simp [activity, State.rst, hr, (currentSymbol_none_iff s).mpr h]

/-- Without a reset at the front of the queue nothing goes on. -/
theorem resetTick_of_noReset {s : State} (h : noResetNext s.queue = true) : s.resetTick = s := by
  unfold State.resetTick
  split <;> first | rfl | (rename_i hq; rw [hq] at h; cases h)

/-- A reset that still waits. -/
theorem resetTick_waits {s : State} {k n : Nat} {q : List HostOp} (h : s.queue = .reset (k + 1) n :: q) :
    s.resetTick = s.setQueue (.reset k n :: q) := by
  simp only [State.resetTick, h]

/-- A reset that has waited is raised. -/
theorem resetTick_raises {s : State} {n : Nat} {q : List HostOp} (h : s.queue = .reset 0 n :: q) :
    s.resetTick = (s.setQueue q).raiseRst n := by
  simp only [State.resetTick, h]

/-- Everything a reset at the front of the queue can do in one cycle. -/
theorem resetTick_cases (s : State) :
    s.resetTick = s ∨ (∃ k n q, s.queue = .reset (k + 1) n :: q ∧ s.resetTick = s.setQueue (.reset k n :: q)) ∨
    ∃ n q, s.queue = .reset 0 n :: q ∧ s.resetTick = (s.setQueue q).raiseRst n := by
  unfold State.resetTick
  split
  · rename_i n q h; exact .inr (.inr ⟨n, q, h, rfl⟩)
  · rename_i k n q h; exact .inr (.inl ⟨k, n, q, h, rfl⟩)
  · exact .inl rfl

/-- The reset going on never writes the block's frame state, response, configuration or host value; what it may write
is the queue, `rst` and `DOUT_OE`. -/
theorem resetTick_eq (s : State) :
    s.resetTick = { s with queue := s.resetTick.queue, rstCycles := s.resetTick.rstCycles, doutOe := s.resetTick.doutOe } := by
  unfold State.resetTick
  split <;> rfl

/-- Everything a cycle that ran an instruction can have ended in. -/
theorem thenResetTick_next {o : Out} {t : State} (h : thenResetTick o = .next t) :
    ∃ u, o = .next u ∧ t = u.resetTick := by
  cases o with
  | next u => cases h; exact ⟨u, rfl, rfl⟩
  | fault r => cases h
  | refused r => cases h

/-- A cycle of the start pulse. -/
theorem step_start {s : State} (hr : s.rstCycles = 0) (hp : s.phase = .start) :
    step s = .next (hold s.clearRsp (s.clearRsp.enterLow (s.sr.getLsbD 25))).resetTick := by
  rw [step_of_runs (activity_symbol hr (i := .frameStart) (by rw [currentSymbol, hp]))]
  simp only [exec, execFrameStart, State.clearRsp_phase, hp, State.clearRsp_sr, thenResetTick]

/-- A cycle of the LOW part of a cell. -/
theorem step_bitLow {s : State} (hr : s.rstCycles = 0) (hp : s.phase = .bitLow) :
    step s = .next (hold s.clearRsp (s.clearRsp.enterHigh (s.sr.getLsbD 25))).resetTick := by
  rw [step_of_runs (activity_symbol hr (i := if s.sr.getLsbD 25 then .logicOne else .logicZero)
    (by rw [currentSymbol, hp]))]
  cases hb : s.sr.getLsbD 25 <;> exact congrArg thenResetTick (cellCycle_low (s := s.clearRsp) hb hp)

/-- A cycle of the HIGH part of a cell. -/
theorem step_bitHigh {s : State} (hr : s.rstCycles = 0) (hp : s.phase = .bitHigh) :
    step s = .next (hold s.clearRsp s.clearRsp.endCell).resetTick := by
  rw [step_of_runs (activity_symbol hr (i := if s.sr.getLsbD 25 then .logicOne else .logicZero)
    (by rw [currentSymbol, hp]))]
  cases hb : s.sr.getLsbD 25 <;> exact congrArg thenResetTick (cellCycle_high (s := s.clearRsp) hb hp)

/-- A cycle of the quiet period. -/
theorem step_quiet {s : State} (hr : s.rstCycles = 0) (hp : s.phase = .quiet) :
    step s = .next (hold s.clearRsp s.clearRsp.endFrame).resetTick := by
  rw [step_of_runs (activity_symbol hr (i := .frameEnd) (by rw [currentSymbol, hp]))]
  simp only [exec, execFrameEnd, State.clearRsp_phase, hp, thenResetTick]

/-- A cycle of a frame in flight whose hold is not over. -/
theorem step_hold {s : State} (hr : s.rstCycles = 0) (hp : s.phase ≠ .idle) (ht : 1 < s.tmr) :
    step s = .next { s.clearRsp with tmr := s.tmr - 1 }.resetTick := by
  cases h : s.phase with
  | idle => exact absurd h hp
  | start => rw [step_start hr h, hold_running (s := s.clearRsp) ht]; rfl
  | bitLow => rw [step_bitLow hr h, hold_running (s := s.clearRsp) ht]; rfl
  | bitHigh => rw [step_bitHigh hr h, hold_running (s := s.clearRsp) ht]; rfl
  | quiet => rw [step_quiet hr h, hold_running (s := s.clearRsp) ht]; rfl

/-- A queue whose first entry is no reset, because none of its entries is. -/
theorem noResetNext_of_mem {q : List HostOp} (h : ∀ k n, HostOp.reset k n ∉ q) : noResetNext q = true := by
  unfold noResetNext
  split
  · exact absurd List.mem_cons_self (h _ _)
  · rfl

/-- A cycle of the idle block with a word presented. -/
theorem step_issue {s : State} {w : CommandWord} {q : List HostOp} (hr : s.rstCycles = 0) (hp : s.phase = .idle)
    (hq : s.queue = .issue w :: q) : step s = thenResetTick (exec (decodeCommand w) (s.clearRsp.setQueue q)) :=
  step_of_runs (by rw [activity_idle hr hp, hostActivity, hq])

/-- A cycle of the idle block in which the host calls an operation. -/
theorem step_call {s : State} {i : Instr} {q : List HostOp} (hr : s.rstCycles = 0) (hp : s.phase = .idle)
    (hq : s.queue = .call i :: q) (hi : hostCallable i = true) :
    step s = thenResetTick (exec i (s.clearRsp.setQueue q)) :=
  step_of_runs (by rw [activity_idle hr hp, hostActivity, hq]; exact if_pos hi)

/-- A cycle of a pause. -/
theorem step_pause {s : State} {n : Nat} {q : List HostOp} (hr : s.rstCycles = 0) (hp : s.phase = .idle)
    (hq : s.queue = .pause n :: q) : step s = .next (s.clearRsp.setQueue (pauseLeft n q)).resetTick :=
  step_of_idles (by rw [activity_idle hr hp, hostActivity, hq])

/-- Everything a step that answers a next state can have done. -/
theorem step_cases {s t : State} (h : step s = .next t) :
    (s.rstCycles ≠ 0 ∧ t = s.resetEdge) ∨
    (s.rstCycles = 0 ∧ ∃ i u, currentSymbol s = some i ∧ exec i s.clearRsp = .next u ∧ t = u.resetTick) ∨
    (s.rstCycles = 0 ∧ s.phase = .idle ∧
      ((s.queue = [] ∧ t = s.clearRsp) ∨
       (∃ w q u, s.queue = .issue w :: q ∧ exec (decodeCommand w) (s.clearRsp.setQueue q) = .next u ∧ t = u.resetTick) ∨
       (∃ n q, s.queue = .pause n :: q ∧ t = (s.clearRsp.setQueue (pauseLeft n q)).resetTick) ∨
       (noResetNext s.queue = false ∧ t = s.clearRsp.resetTick) ∨
       (∃ i q u, s.queue = .call i :: q ∧ hostCallable i = true ∧ exec i (s.clearRsp.setQueue q) = .next u ∧
         t = u.resetTick))) := by
  by_cases hr : s.rstCycles = 0
  · cases hc : currentSymbol s with
    | some i =>
      rw [step_of_runs (activity_symbol hr hc)] at h
      obtain ⟨u, hu, rfl⟩ := thenResetTick_next h
      exact .inr (.inl ⟨hr, i, u, rfl, hu, rfl⟩)
    | none =>
      have hp := (currentSymbol_none_iff s).mp hc
      refine .inr (.inr ⟨hr, hp, ?_⟩)
      simp only [step, activity_idle hr hp, hostActivity] at h
      cases hq : s.queue with
      | nil => simp only [hq] at h; cases h; exact .inl ⟨rfl, rfl⟩
      | cons op q =>
        simp only [hq] at h
        cases op with
        | issue w =>
          obtain ⟨u, hu, rfl⟩ := thenResetTick_next h
          exact .inr (.inl ⟨w, q, u, rfl, hu, rfl⟩)
        | pause n => cases h; exact .inr (.inr (.inl ⟨n, q, rfl, rfl⟩))
        | reset k n => cases h; exact .inr (.inr (.inr (.inl ⟨rfl, rfl⟩)))
        | call i =>
          cases hi : hostCallable i with
          | true =>
            simp only [hi] at h
            obtain ⟨u, hu, rfl⟩ := thenResetTick_next h
            exact .inr (.inr (.inr (.inr ⟨i, q, u, rfl, hi, hu, rfl⟩)))
          | false => simp only [hi] at h; cases h
  · rw [step_of_idles (activity_reset hr)] at h
    cases h
    exact .inl ⟨hr, rfl⟩

end Sys2Proof.Machine
end

