-- ==== Sys2Proof/Laws/Run.lean ====
section
/-! SUPPORT. Runs, traces and responses taken apart, and the words of a queue: what a claim over many cycles cites. -/

namespace Sys2Proof.Machine

/-- One cycle of a run. -/
theorem runCycles_succ (n : Nat) (s : State) :
    runCycles (n + 1) s = match step s with
      | .next t => runCycles n t
      | .fault r => .fault r
      | .refused r => .refused r := by
  cases h : step s <;> simp only [runCycles, Host.Core.run, Sys2Proof.core, h]

theorem runCycles_succ_next {s t : State} (h : step s = .next t) (n : Nat) : runCycles (n + 1) s = runCycles n t := by
  rw [runCycles_succ, h]

/-- A run of `a + b` cycles is one of `a` and one of `b`. -/
theorem runCycles_add {a : Nat} {s t : State} (h : runCycles a s = .next t) (b : Nat) :
    runCycles (a + b) s = runCycles b t := by
  induction a generalizing s with
  | zero => cases h; rw [Nat.zero_add]
  | succ a ih =>
    rw [runCycles_succ] at h
    cases hs : step s with
    | next u => rw [hs] at h; rw [Nat.add_right_comm, runCycles_succ_next hs]; exact ih h
    | fault r => cases r
    | refused r => rw [hs] at h; cases h

theorem trace_succ {s t : State} (h : step s = .next t) (n : Nat) : trace (n + 1) s = s.line :: trace n t := by
  show s.line :: _ = _
  rw [h]

/-- The trace of `a + b` cycles is the trace of `a`, then that of `b`. -/
theorem trace_add {a : Nat} {s t : State} (h : runCycles a s = .next t) (b : Nat) :
    trace (a + b) s = trace a s ++ trace b t := by
  induction a generalizing s with
  | zero => cases h; rw [Nat.zero_add]; rfl
  | succ a ih =>
    rw [runCycles_succ] at h
    cases hs : step s with
    | next u => rw [hs] at h; rw [Nat.add_right_comm, trace_succ hs, trace_succ hs, ih h]; rfl
    | fault r => cases r
    | refused r => rw [hs] at h; cases h

theorem responses_succ {s t : State} (h : step s = .next t) (n : Nat) :
    responses (n + 1) s = s.response.toList ++ responses n t := by
  show s.response.toList ++ _ = _
  rw [h]

/-- The responses of `a + b` cycles are those of `a`, then those of `b`. -/
theorem responses_add {a : Nat} {s t : State} (h : runCycles a s = .next t) (b : Nat) :
    responses (a + b) s = responses a s ++ responses b t := by
  induction a generalizing s with
  | zero => cases h; rw [Nat.zero_add]; rfl
  | succ a ih =>
    rw [runCycles_succ] at h
    cases hs : step s with
    | next u =>
      rw [hs] at h
      rw [Nat.add_right_comm, responses_succ hs, responses_succ hs, ih h, List.append_assoc]
    | fault r => cases r
    | refused r => rw [hs] at h; cases h

/-- A line that is driven shows `DOUT`. -/
theorem line_of_driven {s : State} (h : s.doutOe = true) : s.line = s.dout := by
  simp [State.line, h]

/-- A segment is within every tolerance of itself. -/
theorem inTol_refl (tol : Nat) (g : Segment) : g.inTol tol g = true := by
  simp [Segment.inTol]

/-- The tolerance 0 of the spec's model admits the nominal segment alone. -/
theorem inTol_zero_iff (g m : Segment) : g.inTol 0 m = true ↔ m = g := by
  cases g; cases m
  simp only [Segment.inTol, Bool.and_eq_true, decide_eq_true_eq, Segment.mk.injEq, and_assoc]
  exact and_congr_right fun _ => by omega

/-- A pause before a queue adds its cycles to the first gap. -/
theorem issuesOf_pauseOps (a n : Nat) (q : List HostOp) : issuesOf a (pauseOps n ++ q) = issuesOf (a + n) q := by
  unfold pauseOps
  split
  · rename_i h; subst h; rfl
  · rfl

/-- The words of a queue do not depend on the cycles already passed. -/
theorem map_snd_issuesOf (a b : Nat) (q : List HostOp) :
    (issuesOf a q).map Prod.snd = (issuesOf b q).map Prod.snd := by
  induction q generalizing a b with
  | nil => rfl
  | cons op rest ih =>
    cases op with
    | issue w => rfl
    | pause n => exact ih _ _
    | reset n => exact ih _ _
    | call i => exact ih _ _

/-- The words of a bulk operation, in order. -/
def wordsOfOps : List BulkOp → List CommandWord
  | [] => []
  | .send p i c :: rest => setColorWord p i c :: wordsOfOps rest
  | .sleep _ :: rest => wordsOfOps rest

/-- A bulk operation put at the front of a queue presents its words first. -/
theorem map_snd_issuesOf_schedule (k n a : Nat) (ops : List BulkOp) (q : List HostOp) :
    (issuesOf a (schedule k n ops ++ q)).map Prod.snd = wordsOfOps ops ++ wordsOf q := by
  induction ops generalizing n a with
  | nil => exact map_snd_issuesOf _ _ _
  | cons op rest ih =>
    cases op with
    | send p i c =>
      simp only [schedule, List.append_assoc, List.cons_append, issuesOf_pauseOps, issuesOf, List.map_cons, ih, wordsOfOps]
    | sleep ms =>
      simp only [schedule, List.append_assoc, issuesOf_pauseOps, ih, wordsOfOps]

/-- The words the host presents after it has started a bulk operation. -/
theorem wordsOf_startBulk (ops : List BulkOp) (s : State) :
    wordsOf (s.startBulk ops).queue = wordsOfOps ops ++ wordsOf s.queue :=
  map_snd_issuesOf_schedule _ _ _ _ _

/-- A bulk operation with one frame per element of a list presents one word per element. -/
theorem wordsOfOps_map {α : Type} (l : List α) (p : α → Pos) (i : α → Intensity) (c : α → Color) :
    wordsOfOps (l.map fun x => .send (p x) (i x) (c x)) = l.map fun x => setColorWord (p x) (i x) (c x) := by
  induction l with
  | nil => rfl
  | cons a rest ih => simp only [List.map_cons, wordsOfOps, ih]

end Sys2Proof.Machine
end

