-- ==== Sys2Proof/Tests/Slice0.lean ====
section
/-! SUPPORT. Tests. Expected results come from spec/95_test_vectors.md (V, W, S and P numbers) or are written out by hand
from the rule named; the witnesses at the end show that the hypotheses of the statements can be met. -/

namespace Sys2Proof.Tests

open Sys2Proof.Machine

/-- Parameters with numbers in place of the OPEN colours, so that a test can be evaluated. -/
def params : InstanceParams :=
  { ticksPerUs := 1, maxIntensity := 255, channelOrder := .rgb, colorOrange := 0x0A1, colorIndigo := 0x0A2,
    colorViolet := 0x0A3, fadeTrailingSleep := true, tol := 0 }

/-- A block just constructed, with this light count. -/
def ready (lc : BitVec 8) : State := State.construct 7 lc TimingConfig.default params

/-- A block with this queue. -/
def hosted (lc : BitVec 8) (q : List HostOp) : State := { ready lc with queue := q }

/-- A block with a frame in flight. -/
def inFlight (phase : Phase) (sr : BitVec 26) (bitcnt : BitVec 5) (tmr : Nat) (dout : Bool) : State :=
  { ready 50 with phase := phase, sr := sr, bitcnt := bitcnt, tmr := tmr, dout := dout, rspOwed := true }

/-- The outcome is a next state of which this holds. -/
def nextIs (o : Out) (p : State → Bool) : Bool :=
  match o with
  | .next t => p t
  | .fault _ => false
  | .refused _ => false

/-- The outcome is this refusal. -/
def refusedBy (o : Out) (r : Refusal) : Bool :=
  match o with
  | .next _ => false
  | .fault _ => false
  | .refused q => decide (q = r)

/-- The frame register, the bit count, the timer, the line and the phase, as one value. -/
def lineSide (s : State) : BitVec 26 × BitVec 5 × Nat × Bool × Phase := (s.sr, s.bitcnt, s.tmr, s.dout, s.phase)

/-- The response register, as one value. -/
def answer (s : State) : Bool × BitVec 2 × BitVec 8 := (s.rspValid, s.rspCode, s.rspData)

/-! ### Well-formedness: a term each check refuses -/

theorem test_wf_red_16 : (Instr.color 16 0 0).wellFormed = false := by decide
theorem test_wf_green_16 : (Instr.color 0 16 0).wellFormed = false := by decide
theorem test_wf_blue_16 : (Instr.color 0 0 16).wellFormed = false := by decide
theorem test_wf_channels_15 : (Instr.color 15 15 15).wellFormed = true := by decide
theorem test_wf_hue_96 : (Instr.colorHue 96).wellFormed = false := by decide
theorem test_wf_hue_95 : (Instr.colorHue 95).wellFormed = true := by decide
theorem test_wf_span_0 : (Instr.fillSequenceColor 0 4 0 0 1 ⟨[], 0⟩).wellFormed = false := by decide
theorem test_wf_span_0_pairs : (Instr.fillSequenceColorIntensity 0 4 0 0 ⟨[], (0, 0)⟩).wellFormed = false := by decide
theorem test_wf_span_0_whole : (Instr.fillSequenceWholeString 0 0 (.colorOnly 1 ⟨[], 0⟩)).wellFormed = false := by decide
theorem test_wf_span_1 : (Instr.fillSequenceColor 0 4 0 1 1 ⟨[], 0⟩).wellFormed = true := by decide
theorem test_timing_default : TimingConfig.default.legal = true := by decide
theorem test_timing_startHigh_0 : (TimingConfig.legal { TimingConfig.default with startHigh := 0 }) = false := by decide
theorem test_timing_oneLow_0 : (TimingConfig.legal { TimingConfig.default with oneLow := 0 }) = false := by decide
theorem test_timing_oneHigh_0 : (TimingConfig.legal { TimingConfig.default with oneHigh := 0 }) = false := by decide
theorem test_timing_zeroLow_0 : (TimingConfig.legal { TimingConfig.default with zeroLow := 0 }) = false := by decide
theorem test_timing_zeroHigh_0 : (TimingConfig.legal { TimingConfig.default with zeroHigh := 0 }) = false := by decide
theorem test_timing_endLow_0 : (TimingConfig.legal { TimingConfig.default with endLow := 0 }) = false := by decide
theorem test_ticks_0 : (InstanceParams.legal { params with ticksPerUs := 0 }) = false := by decide

/-! ### Decoding: words written out from the encoding tables (R46, R50 to R52, R60) -/

/-- R51, op 001: pos 49 = 00110001, intensity 7 = 00000111, colour 0x123 (V10). -/
theorem test_decode_setColor :
    decodeCommand 0b00010011000100000111000100100011 = .setColor 49 7 0x123 := by decide
/-- R51, op 010 (V11). -/
theorem test_decode_setColorIfInRange :
    decodeCommand 0b00100011000100000111000100100011 = .setColorIfInRange 49 7 0x123 := by decide
/-- R51, op 011, operand bits kept but ignored (V19). -/
theorem test_decode_getLightCount :
    decodeCommand 0b00111010101111001101111011110001 = .getLightCount 0xABCDEF1 := by decide
/-- R53, op 000 (V21). -/
theorem test_decode_reservedOp0 : decodeCommand 0b00000000000000000000000000000001 = .reservedOp0 1 := by decide
/-- R53, op 100. -/
theorem test_decode_reservedOp4 : decodeCommand 0b01000000000000000000000000000010 = .reservedOp4 2 := by decide
/-- R53, op 101. -/
theorem test_decode_reservedOp5 : decodeCommand 0b01010000000000000000000000000011 = .reservedOp5 3 := by decide
/-- R53, op 110. -/
theorem test_decode_reservedOp6 : decodeCommand 0b01100000000000000000000000000100 = .reservedOp6 4 := by decide
/-- R53, op 111 (V23). -/
theorem test_decode_reservedOp7 : decodeCommand 0b01110000000000000000000000000000 = .reservedOp7 0 := by decide
/-- R53, bit 31, before the opcode (V22, opcode 1). -/
theorem test_decode_reservedRsv1 :
    decodeCommand 0b10010000000000000000000000000000 = .reservedRsv1 0b0010000000000000000000000000000 := by decide
/-- R46: address 000101, intensity 11001100, colour 000000001111 (V3). -/
theorem test_decode_frame : decode (.w26 0b00010111001100000000001111) = .ok (.frame 5 0xCC 0x00F) := by decide
/-- R60: `1` (W1). -/
theorem test_decode_frameStart : decode (.slots [true]) = .ok .frameStart := by decide
/-- R60: `001` (W2). -/
theorem test_decode_logicOne : decode (.slots [false, false, true]) = .ok .logicOne := by decide
/-- R60: `011` (W3). -/
theorem test_decode_logicZero : decode (.slots [false, true, true]) = .ok .logicZero := by decide
/-- R60: `000` (W4). -/
theorem test_decode_frameEnd : decode (.slots [false, false, false]) = .ok .frameEnd := by decide
/-- R52: code 00, data 50. -/
theorem test_decode_rsp : decode (.rsp 0b0000110010) = .ok (.rsp .done 50) := by decide
/-- R52: code 3 is never produced. -/
theorem test_decode_rsp_code3 : decode (.rsp 0b1100000000) = .error .rspCodeThree := by decide
/-- R60: `010` is no symbol. -/
theorem test_decode_slots_010 : decode (.slots [false, true, false]) = .error .notASymbol := by decide
/-- R60: one symbol at a time. -/
theorem test_decode_slots_left : decode (.slots [true, true]) = .error .slotsLeftOver := by decide

/-- A table word is decoded and run as the first instruction after reset: P1's word, in cycle 1. -/
theorem test_fetch_command :
    decodeTableWord 32 0x105CC00F = some (.setColor 5 0xCC 0x00F) ∧
    nextIs (step (State.reset.withFetchWord 32 0x105CC00F))
      (fun t => lineSide t = (0x05CC00F, 26, 10, true, .start)) = true := by decide
/-- The same for the symbol LOGIC_ZERO, `011`: ten cycles LOW, of which this is the first. -/
theorem test_fetch_symbol :
    decodeTableWord 8 3 = some .logicZero ∧
    nextIs (step (State.reset.withFetchWord 8 3)) (fun t => decide (t.tmr = 9 ∧ t.dout = false)) = true := by decide

/-! ### Frames (R47, R49, R60) -/

/-- V9, V25: bits 7:6 of the position are dropped. -/
theorem test_frame_assembly : frameOf 49 7 0x123 = 0x3107123 ∧ frameOf 200 9 0x0FF = 0x08090FF := by decide
/-- V7, the bits on the wire, first to last. -/
theorem test_wire_bits :
    wireBits 0x0107123 = [0,0,0,0,0,1, 0,0,0,0,0,1,1,1, 0,0,0,1,0,0,1,0,0,0,1,1].map (fun n => decide (n = 1)) := by
  decide
/-- V3t, V1t: lengths with a non-default timing. -/
theorem test_frame_length :
    frameUs ⟨12, 18, 9, 7, 21, 40⟩ 0x05CC00F = 770 ∧ frameUs ⟨12, 18, 9, 7, 21, 40⟩ 0 = 780 := by decide

/-! ### The command words -/

/-- V10, P1's registers in the cycle after acceptance. -/
theorem test_setColor :
    nextIs (exec (.setColor 49 7 0x123) (ready 50)) (fun t => lineSide t = (0x3107123, 26, 10, true, .start)) = true := by
  decide
/-- V13: no guard. -/
theorem test_setColor_unguarded :
    nextIs (exec (.setColor 50 7 0x123) (ready 50)) (fun t => decide (t.sr = 0x3207123 ∧ t.rspValid = false)) = true := by
  decide
/-- V12: out of range, the line untouched. -/
theorem test_setColorIfInRange_out :
    nextIs (exec (.setColorIfInRange 50 7 0x123) (ready 50))
      (fun t => decide (answer t = (true, 1, 0) ∧ lineSide t = lineSide (ready 50))) = true := by decide
/-- V16: 63 of 64. -/
theorem test_setColorIfInRange_in :
    nextIs (exec (.setColorIfInRange 63 255 0xFFF) (ready 64)) (fun t => lineSide t = (0x3FFFFFF, 26, 10, true, .start)) = true := by
  decide
/-- V19. -/
theorem test_getLightCount :
    nextIs (exec (.getLightCount 0xABCDEF1) (ready 50)) (fun t => answer t = (true, 0, 50)) = true := by decide
/-- V21. -/
theorem test_reservedOp0 :
    nextIs (step (hosted 50 [.issue 0])) (fun t => decide (answer t = (true, 2, 0) ∧ t.busy = false)) = true := by decide
/-- R82. -/
theorem test_reservedOp4 : nextIs (exec (.reservedOp4 9) (ready 50)) (fun t => answer t = (true, 2, 0)) = true := by decide
/-- R82. -/
theorem test_reservedOp5 : nextIs (exec (.reservedOp5 9) (ready 50)) (fun t => answer t = (true, 2, 0)) = true := by decide
/-- R82. -/
theorem test_reservedOp6 : nextIs (exec (.reservedOp6 9) (ready 50)) (fun t => answer t = (true, 2, 0)) = true := by decide
/-- V23. -/
theorem test_reservedOp7 : nextIs (exec (.reservedOp7 0) (ready 50)) (fun t => answer t = (true, 2, 0)) = true := by decide
/-- V60: legality before range. -/
theorem test_reservedRsv1 :
    nextIs (step (hosted 50 [.issue 0xA3207123])) (fun t => answer t = (true, 2, 0)) = true := by decide
/-- V26: a word presented in a frame waits. -/
theorem test_word_waits :
    nextIs (step { inFlight .start 1 26 6 true with queue := [.issue 0x10000000] })
      (fun t => decide (t.queue = [.issue 0x10000000] ∧ t.tmr = 5)) = true := by decide
/-- V4: FRAME loads its bits. -/
theorem test_frame :
    nextIs (exec (.frame 42 0x55 0xAAA) (ready 50)) (fun t => lineSide t = (0x2A55AAA, 26, 10, true, .start)) = true := by
  decide
/-- R52: OUT_OF_RANGE is 1. -/
theorem test_rsp : nextIs (exec (.rsp .outOfRange 0) (ready 50)) (fun t => answer t = (true, 1, 0)) = true := by decide
/-- R133: no caller can send a bare frame. -/
theorem test_frame_not_callable : refusedBy (step (hosted 50 [.call (.frame 0 0 0)])) .privateToBlock = true := by decide

/-! ### The primitives (R65 to R68, R72) -/

/-- W1: the tenth cycle of the start pulse; the first cell of V3 sends a zero. -/
theorem test_frameStart_last :
    nextIs (step (inFlight .start 0x05CC00F 26 1 true)) (fun t => lineSide t = (0x05CC00F, 26, 10, false, .bitLow)) = true := by
  decide
/-- A cycle inside the start pulse. -/
theorem test_frameStart_hold :
    nextIs (step (inFlight .start 0x05CC00F 26 7 true)) (fun t => lineSide t = (0x05CC00F, 26, 6, true, .start)) = true := by
  decide
/-- W5: the last LOW cycle of a one. -/
theorem test_logicOne_rises :
    nextIs (step (inFlight .bitLow 0x3000000 20 1 false)) (fun t => lineSide t = (0x3000000, 20, 10, true, .bitHigh)) = true := by
  decide
/-- W5: the last HIGH cycle of a one, before a zero. -/
theorem test_logicOne_shifts :
    nextIs (step (inFlight .bitHigh 0x2000001 20 1 true)) (fun t => lineSide t = (0x0000002, 19, 10, false, .bitLow)) = true := by
  decide
/-- W3: the last LOW cycle of a zero. -/
theorem test_logicZero_rises :
    nextIs (step (inFlight .bitLow 0x1000000 20 1 false)) (fun t => lineSide t = (0x1000000, 20, 20, true, .bitHigh)) = true := by
  decide
/-- The last HIGH cycle of the last bit: the quiet period (W4, 30 µs). -/
theorem test_logicZero_last :
    nextIs (step (inFlight .bitHigh 0 1 1 true)) (fun t => lineSide t = (0, 0, 30, false, .quiet)) = true := by decide
/-- P1's end state: idle, DONE. -/
theorem test_frameEnd_last :
    nextIs (step (inFlight .quiet 0 0 1 false))
      (fun t => decide (t.phase = .idle ∧ answer t = (true, 0, 0) ∧ t.rspOwed = false)) = true := by decide
/-- R133: a primitive away from its place. -/
theorem test_frameEnd_alone : refusedBy (exec .frameEnd (ready 50)) .primitiveOutOfPlace = true := by decide

/-! ### The bulk operations -/

/-- V30. -/
theorem test_fillRange : fillRangeOps 0 5 7 0xABC =
    [.send 0 7 0xABC, .send 1 7 0xABC, .send 2 7 0xABC, .send 3 7 0xABC, .send 4 7 0xABC] := by decide
/-- V32: the range goes on past 63; V31: an empty range. -/
theorem test_fillRange_wraps : fillRangeOps 62 4 1 1 = [.send 62 1 1, .send 63 1 1, .send 64 1 1, .send 65 1 1] ∧
    fillRangeOps 10 0 7 0xABC = [] := by decide
/-- V33. -/
theorem test_fillRandom : fillRandomOps .rgb (fun k => [7, 2, 12].getD k 0) 3 3 9 =
    [.send 3 9 0x0F0, .send 4 9 0xF00, .send 5 9 0x00F] := by decide
/-- V35. -/
theorem test_fillSequenceColor : fillSequenceColorOps 10 4 5 2 200 (maxColorFn .rgb) =
    [.send 13 200 0xF0F, .send 12 200 0xFF0, .send 11 200 0xFF0, .send 10 200 0xF00] := by decide
/-- V43. -/
theorem test_fillSequenceColor_span0 :
    refusedBy (exec (.fillSequenceColor 0 4 0 0 1 ⟨[], 0⟩) (ready 50)) .spanSizeZero = true := by decide
/-- V36. -/
theorem test_fillSequenceColorIntensity :
    fillSequenceColorIntensityOps 0 3 0 1 (fun i => (maxColorFn .rgb i, BitVec.ofNat 8 (10 * i))) =
    [.send 2 20 0xF00, .send 1 10 0x0F0, .send 0 0 0x00F] := by decide
/-- V37, with f(0) = 0x111 and f(1) = 0x222. -/
theorem test_fillSequenceWholeString : wholeStringOps 4 1 3 (.colorOnly 5 ⟨[(0, 0x111), (1, 0x222)], 0⟩) =
    [.send 3 5 0x222, .send 2 5 0x222, .send 1 5 0x111, .send 0 5 0x111] := by decide
/-- V39. -/
theorem test_enumerate_reverse : enumerateOps 4 255 true =
    [.send 3 255 0, .send 2 255 0, .send 1 255 0, .send 0 255 0] := by decide
/-- V42; P4. -/
theorem test_enumerate : enumerateOps 0 255 false = [] ∧
    enumerateOps 4 255 false = [.send 0 255 0, .send 1 255 0, .send 2 255 0, .send 3 255 0] := by decide
/-- V40, P5: the first moves. -/
theorem test_fadeIn : (fadeInOps true 1).take 4 = [.send 63 0 0, .sleep 1, .send 63 1 0, .sleep 1] := by decide
/-- V41: the first moves. -/
theorem test_fadeOut : (fadeOutOps true 1).take 4 = [.send 63 255 0, .sleep 1, .send 63 254 0, .sleep 1] := by decide
/-- R97: without the parameter the last step has no sleep. -/
theorem test_fade_trailing : fadeStep false 1 255 255 = [.send 63 255 0] ∧ fadeStep true 1 255 255 = [.send 63 255 0, .sleep 1] := by
  decide

/-! ### The colour functions (95_test_vectors 2.5 to 2.7) -/

/-- (10, 11, 12) is 0xCBA. -/
theorem test_color : nextIs (exec (.color 10 11 12) (ready 50)) (fun t => t.retColor = 0xCBA) = true := by decide
/-- (16, 0, 0) is refused (U1). -/
theorem test_color_16 : refusedBy (exec (.color 16 0 0) (ready 50)) .channelOutOfRange = true := by decide
/-- Hue 40 is 0x80F, hue 94 is 0x1F0. -/
theorem test_colorHue : nextIs (exec (.colorHue 40) (ready 50)) (fun t => t.retColor = 0x80F) = true ∧
    nextIs (exec (.colorHue 94) (ready 50)) (fun t => t.retColor = 0x1F0) = true := by decide
/-- S6 as corrected: hue 255 is refused. -/
theorem test_colorHue_255 : refusedBy (exec (.colorHue 255) (ready 50)) .hueOutOfRange = true := by decide
/-- Index 9 is yellow; 65535 is orange. -/
theorem test_rainbowColor : nextIs (exec (.rainbowColor 9) (ready 50)) (fun t => t.retColor = 0x0FF) = true ∧
    nextIs (exec (.rainbowColor 65535) (ready 50)) (fun t => t.retColor = params.colorOrange) = true := by decide
/-- Index 10 is magenta; 65535 is cyan. -/
theorem test_maxColor : nextIs (exec (.maxColor 10) (ready 50)) (fun t => t.retColor = 0xF0F) = true ∧
    nextIs (exec (.maxColor 65535) (ready 50)) (fun t => t.retColor = 0xFF0) = true := by decide

/-! ### Reset and pauses -/

/-- R145: a frame in flight is cut. -/
theorem test_reset_cuts :
    nextIs (step { inFlight .bitHigh 0x3FFFFFF 9 5 true with rstCycles := 2, doutOe := false })
      (fun t => decide (lineSide t = (0, 0, 0, false, .idle) ∧ t.doutOe = false ∧ t.rstCycles = 1)) = true := by decide
/-- R158: the host raises `rst` in a frame after it has waited. -/
theorem test_reset_in_frame :
    nextIs (step { inFlight .start 1 26 6 true with queue := [.reset 1 2] })
      (fun t => decide (t.queue = [.reset 0 2] ∧ t.rst = false ∧ t.tmr = 5)) = true ∧
    nextIs (step { inFlight .start 1 26 5 true with queue := [.reset 0 2] })
      (fun t => decide (t.queue = [] ∧ t.rst = true ∧ t.doutOe = false)) = true := by decide
/-- R22, R130: `rst` can be 1 in the cycle after an acceptance, with the response then presented, and after a pause. -/
theorem test_reset_after_acceptance :
    nextIs (step (hosted 50 [.issue 0x30000000, .reset 0 2]))
      (fun t => decide (t.rstCycles = 2 ∧ t.doutOe = false ∧ answer t = (true, 0, 50) ∧ t.queue = [])) = true ∧
    nextIs (step (hosted 50 [.pause 1, .reset 0 1])) (fun t => t.rst) = true := by decide
/-- R22: a command called by name is a word on the port; a bulk operation is none. -/
theorem test_cmdPort : (hosted 50 [.call (.setColor 5 0xCC 0x00F)]).cmdPort = some 0x105CC00F ∧
    (hosted 50 [.call (.fillRange 0 3 1 1)]).cmdPort = none ∧ (hosted 50 [.issue 7]).cmdPort = some 7 := by decide
/-- R23: the last cycle of reset is followed by cycle 0. -/
theorem test_reset_release :
    nextIs (step { inFlight .quiet 0 0 5 false with rstCycles := 1, doutOe := false })
      (fun t => decide (t = { ready 50 with freeIdx := 1 })) = true := by decide
/-- A pause of two cycles. -/
theorem test_pause : nextIs (step (hosted 50 [.pause 2])) (fun t => t.queue = [.pause 1]) = true ∧
    nextIs (step (hosted 50 [.pause 1])) (fun t => t.queue = []) = true := by decide

/-! ### Witnesses: the hypotheses of the statements can be met -/

theorem witness_ConstructionResetValues : create 7 50 TimingConfig.default params = .next (ready 50) := rfl

theorem witness_ZeroTimingIsRefused_zero :
    let t : TimingConfig := { TimingConfig.default with endLow := 0 }
    t.startHigh = 0 ∨ t.oneLow = 0 ∨ t.oneHigh = 0 ∨ t.zeroLow = 0 ∨ t.zeroHigh = 0 ∨ t.endLow = 0 := by decide

theorem witness_ZeroTimingIsRefused_ones :
    let t : TimingConfig := ⟨1, 1, 1, 1, 1, 1⟩
    t.startHigh ≠ 0 ∧ t.oneLow ≠ 0 ∧ t.oneHigh ≠ 0 ∧ t.zeroLow ≠ 0 ∧ t.zeroHigh ≠ 0 ∧ t.endLow ≠ 0 ∧
      1 ≤ params.ticksPerUs := by decide

theorem witness_ResetOverridesEverything : { ready 50 with rstCycles := 1 }.rstCycles ≠ 0 ∧
    { inFlight .start 0 26 5 true with queue := [.reset 0 1] }.rstCycles = 0 ∧
    { inFlight .start 0 26 5 true with queue := [.reset 0 1] }.busy = true ∧
    { inFlight .start 0 26 5 true with queue := [.reset 0 1] }.queue = .reset 0 1 :: [] ∧
    (hosted 50 [.issue 0x105CC00F, .reset 0 1]).cmdReady = true := by decide

theorem witness_SilentHostKeepsLineLow :
    let s := hosted 50 [.pause 3]
    s.phase = .idle ∧ s.rstCycles = 0 ∧ s.doutOe = true ∧ s.dout = false ∧ s.rspValid = false ∧
      ∀ op ∈ s.queue, ∃ c, op = .pause c :=
  ⟨rfl, rfl, rfl, rfl, rfl, fun _ h => ⟨3, List.mem_singleton.mp h⟩⟩

/-- The invariant holds right after reset, for the opaque colours too. -/
theorem witness_reset_meets_Inv : State.reset.Inv :=
  ⟨by decide, by decide, ⟨rfl, rfl⟩, ⟨by decide, .inl rfl, fun _ => rfl⟩⟩

theorem witness_StepKeepsEncoderInvariant_accepts : ∃ t, (hosted 50 [.issue 0x105CC00F]).Inv ∧
    step (hosted 50 [.issue 0x105CC00F]) = .next t :=
  ⟨_, ⟨by decide, by decide, ⟨rfl, rfl⟩, ⟨by decide, .inl rfl, fun _ => rfl⟩⟩, rfl⟩

theorem witness_StepKeepsEncoderInvariant_lastBit : ∃ t, (inFlight .bitHigh 0x2000000 1 1 true).Inv ∧
    step (inFlight .bitHigh 0x2000000 1 1 true) = .next t :=
  ⟨_, ⟨by decide, by decide, ⟨rfl, rfl, by decide, by decide, by decide, by decide, by decide⟩, ⟨by decide, .inl rfl, fun h => by cases h⟩⟩, rfl⟩

theorem witness_ConstructedInstanceMeetsInvariant :
    create 1 0 ⟨1, 1, 1, 1, 1, 1⟩ params = .next (State.construct 1 0 ⟨1, 1, 1, 1, 1, 1⟩ params) := rfl

theorem witness_ConfigurationIsNeverWritten : (∃ t, exec (.setColor 0 0 0) (ready 50) = .next t) ∧
    ∃ t, step (ready 50) = .next t := ⟨⟨_, rfl⟩, ⟨_, rfl⟩⟩

theorem witness_StepIsTotal : { ready 50 with rstCycles := 3 }.rst = true ∧ (inFlight .quiet 0 0 9 false).busy = true ∧
    (hosted 50 [.call (.colorHue 95), .issue 0, .pause 0, .reset 0 0]).hostOk = true := by decide

theorem witness_PhaseOrder : ∀ s ∈ [ready 50, inFlight .start 0 26 1 true, inFlight .bitLow 0 26 1 false,
    inFlight .bitHigh 0 1 1 true, inFlight .bitHigh 0 2 1 true, inFlight .quiet 0 0 1 false],
    s.rst = false ∧ ∃ t, step s = .next t := by
  simp only [List.forall_mem_cons, List.not_mem_nil, false_implies, implies_true, and_true]
  exact ⟨⟨rfl, _, rfl⟩, ⟨rfl, _, rfl⟩, ⟨rfl, _, rfl⟩, ⟨rfl, _, rfl⟩, ⟨rfl, _, rfl⟩, ⟨rfl, _, rfl⟩⟩

theorem witness_OnlyTransmittingCommandStartsFrame : (hosted 50 [.issue 0x105CC00F]).busy = false ∧
    ∃ t, step (hosted 50 [.issue 0x105CC00F]) = .next t ∧ t.busy = true := ⟨rfl, _, rfl, rfl⟩

theorem witness_DecodeOfEncodeIsIdentity : encode (.setColor 255 255 0xFFF) = some (.c32 0x1FFFFFFF) ∧
    encode (.frame 63 255 0xFFF) = some (.w26 0x3FFFFFF) ∧ encode (.rsp .illegal 255) = some (.rsp 0x2FF) ∧
    encode .frameEnd = some (.slots [false, false, false]) := by decide

theorem witness_OpcodeMapUnderMasks : (0x1FFFFFFF : CommandWord) &&& 0xF0000000 = 0x10000000 ∧
    (0x20000000 : CommandWord) &&& 0xF0000000 = 0x20000000 ∧ (0x3FFFFFFF : CommandWord) &&& 0xF0000000 = 0x30000000 ∧
    (0x0FFFFFFF : CommandWord) &&& 0xF0000000 = 0 ∧ (0x40000000 : CommandWord) &&& 0xF0000000 = 0x40000000 ∧
    (0x5FFFFFFF : CommandWord) &&& 0xF0000000 = 0x50000000 ∧ (0x60000000 : CommandWord) &&& 0xF0000000 = 0x60000000 ∧
    (0x7FFFFFFF : CommandWord) &&& 0xF0000000 = 0x70000000 ∧ (0xFFFFFFFF : CommandWord) &&& 0x80000000 = 0x80000000 := by
  decide

theorem witness_StepRunsDecodedInstruction :
    ((hosted 50 [.issue 0x105CC00F]).rstCycles = 0 ∧ (hosted 50 [.issue 0x105CC00F]).phase = .idle ∧
      (hosted 50 [.issue 0x105CC00F]).queue = .issue 0x105CC00F :: []) ∧
    ((inFlight .start 1 26 1 true).rstCycles = 0 ∧ (inFlight .start 1 26 1 true).phase = .start) ∧
    ((inFlight .bitLow 1 26 1 false).phase = .bitLow ∨ (inFlight .bitLow 1 26 1 false).phase = .bitHigh) ∧
    (inFlight .quiet 0 0 1 false).phase = .quiet := by decide

theorem witness_StepRunsHostActions : ∀ q ∈ [[], [.call (.setColor 0 0 0)], [.call .frameStart], [.pause 1], [.pause 2],
    [.reset 3 1]], (hosted 50 q).rstCycles = 0 ∧ (hosted 50 q).phase = .idle ∧ (hosted 50 q).queue = q := by decide

theorem witness_ClockEdgeIsR72 : (hosted 50 [.issue 0]).rstCycles = 0 ∧
    (∀ i, (hosted 50 [.issue 0]).queue.head? ≠ some (.call i)) ∧ (∀ k n, .reset k n ∉ (hosted 50 [.issue 0]).queue) ∧
    (∀ i, (hosted 50 [.call (.colorHue 95)]).queue.head? = some (.call i) → hostCallable i = true ∧ i.wellFormed = true) ∧
    (inFlight .bitHigh 0 1 1 true).rstCycles = 0 ∧ (inFlight .bitHigh 0 1 1 true).phase ≠ .idle :=
  ⟨rfl, fun _ h => (nomatch h), fun _ _ h => (nomatch List.mem_singleton.mp h), fun _ h => by cases h; decide, rfl, by decide⟩

theorem witness_BusyBlockReadsNothing : (inFlight .bitLow 0 26 1 false).rst = false ∧
    (inFlight .bitLow 0 26 1 false).busy = true ∧ noResetNext (inFlight .bitLow 0 26 1 false).queue = true ∧
    noResetNext [.issue 0] = true := by decide

/-- SetColorLoadsFrame, GuardedCommandTestsRange, GetLightCountAnswers, IllegalRowsComplete, FrameRowTransmits. -/
theorem witness_readyBlock : (ready 50).cmdReady = true := by decide

/-- Also GuardedEqualsUnguardedInRange and CommandRowsFrame: the two sides of the range test. -/
theorem witness_GuardedCommandTestsRange : (ready 50).lightCount.toNat ≤ (50 : Pos).toNat ∧
    (49 : Pos).toNat < (ready 50).lightCount.toNat := by decide

theorem witness_IllegalWordsAnswerIllegal : (hosted 50 [.issue 0]).cmdReady = true ∧
    (hosted 50 [.issue 0]).queue = .issue 0 :: [] ∧ ((0 : CommandWord).extractLsb' 28 3).toNat ∈ [0, 4, 5, 6, 7] ∧
    ((0x7FFFFFFF : CommandWord).extractLsb' 28 3).toNat ∈ [0, 4, 5, 6, 7] ∧ (0x90000000 : CommandWord).getLsbD 31 = true := by
  decide

theorem witness_UnreadyBlockTakesNoCommand : (inFlight .start 0 26 1 true).cmdReady = false ∧
    { ready 50 with rstCycles := 1 }.cmdReady = false := by decide

theorem witness_ResponseLastsOneCycle : { ready 50 with rspValid := true }.queue = [] ∧
    { ready 50 with rspValid := true }.phase ≠ .quiet ∧ ∃ t, step { ready 50 with rspValid := true } = .next t :=
  ⟨rfl, by decide, _, rfl⟩

/-- CommandRowsFrame and UnguardedRowsIgnoreLightCount: each row named there completes somewhere. -/
theorem witness_commandRowsComplete : ∀ i ∈ [Instr.setColor 1 2 3, .setColorIfInRange 49 0 0, .setColorIfInRange 50 0 0,
    .getLightCount 0, .reservedOp0 0, .reservedOp4 0, .reservedOp5 0, .reservedOp6 0, .reservedOp7 0, .reservedRsv1 0,
    .frame 1 2 3, .rsp .done 0], nextIs (exec i (ready 50)) (fun _ => true) = true := by decide

/-- HostRowsFrame and UnguardedRowsIgnoreLightCount: the bulk operations. -/
theorem witness_bulkRowsComplete : ∀ i ∈ [Instr.fillRange 0 3 1 1, .fillRandom 0 3 1, .fillSequenceColor 0 3 0 1 1 ⟨[], 0⟩,
    .fillSequenceColorIntensity 0 3 0 1 ⟨[], (0, 0)⟩, .fillSequenceWholeString 0 1 (.colorOnly 1 ⟨[], 0⟩), .enumerate true,
    .fadeIn 1, .fadeOut 1], ∃ t, exec i (ready 50) = .next t := by
  simp only [List.forall_mem_cons, List.not_mem_nil, false_implies, implies_true, and_true]
  exact ⟨⟨_, rfl⟩, ⟨_, rfl⟩, ⟨_, rfl⟩, ⟨_, rfl⟩, ⟨_, rfl⟩, ⟨_, rfl⟩, ⟨_, rfl⟩, ⟨_, rfl⟩⟩

/-- HostRowsFrame: the colour functions. -/
theorem witness_colorRowsComplete : ∀ i ∈ [Instr.color 15 15 15, .colorHue 95, .rainbowColor 6, .maxColor 5],
    nextIs (exec i (ready 50)) (fun _ => true) = true := by decide

theorem witness_StartAndEndCycles : (inFlight .start 0 26 2 true).phase = .start ∧ 1 < (inFlight .start 0 26 2 true).tmr ∧
    (inFlight .start 0 26 1 true).phase = .start ∧ (inFlight .start 0 26 1 true).tmr ≤ 1 ∧
    (inFlight .quiet 0 0 2 false).phase = .quiet ∧ 1 < (inFlight .quiet 0 0 2 false).tmr ∧
    (inFlight .quiet 0 0 1 false).phase = .quiet ∧ (inFlight .quiet 0 0 1 false).tmr ≤ 1 := by decide

theorem witness_BitCellCycles : ∀ b : Bool, ∀ s ∈ [inFlight .bitLow (if b then 0x2000000 else 0) 5 2 false,
    inFlight .bitLow (if b then 0x2000000 else 0) 5 1 false, inFlight .bitHigh (if b then 0x2000000 else 0) 5 2 true,
    inFlight .bitHigh (if b then 0x2000000 else 0) 1 1 true, inFlight .bitHigh (if b then 0x2000000 else 0) 2 1 true],
    s.sr.getLsbD 25 = b ∧ (s.phase = .bitLow ∨ s.phase = .bitHigh) ∧ (s.tmr = 2 ∨ s.tmr = 1) := by decide

/-- PrimitiveRowsFrame. -/
theorem witness_primitivesComplete : nextIs (exec .frameStart (inFlight .start 0 26 1 true)) (fun _ => true) = true ∧
    nextIs (exec .logicOne (inFlight .bitHigh 0x2000000 5 1 true)) (fun _ => true) = true ∧
    nextIs (exec .logicZero (inFlight .bitLow 0 5 1 false)) (fun _ => true) = true ∧
    nextIs (exec .frameEnd (inFlight .quiet 0 0 1 false)) (fun _ => true) = true := by decide

theorem witness_PrimitivesCannotBeIssuedAlone : (ready 50).phase ≠ .start ∧ (ready 50).phase ≠ .quiet ∧
    (ready 50).phase ≠ .bitLow ∧ (ready 50).phase ≠ .bitHigh ∧ (inFlight .bitLow 0 5 1 false).sr.getLsbD 25 = false ∧
    (inFlight .bitLow 0x2000000 5 1 false).sr.getLsbD 25 = true := by decide

theorem witness_HoldRunsItsLength : (inFlight .quiet 0 0 30 false).rst = false ∧ (inFlight .quiet 0 0 30 false).busy = true ∧
    noResetNext (inFlight .quiet 0 0 30 false).queue = true ∧ 29 < (inFlight .quiet 0 0 30 false).tmr := by decide

/-- Both transmitting commands; the guarded one at its last address. -/
theorem witness_AcceptedCommandSendsItsWave : (hosted 50 [.issue 0x105CC00F]).atRest ∧
    (hosted 50 [.issue 0x105CC00F]).queue = .issue 0x105CC00F :: [] ∧ noResetNext [] = true ∧
    Transmits (hosted 50 [.issue 0x105CC00F]) (decodeCommand 0x105CC00F) 0x05CC00F ∧
    Transmits (hosted 50 [.issue 0x23107123]) (decodeCommand 0x23107123) 0x3107123 :=
  ⟨⟨rfl, rfl, rfl, rfl, by decide⟩, rfl, rfl, .inl ⟨5, 0xCC, 0x00F, by decide, by decide⟩,
    .inr ⟨49, 7, 0x123, by decide, by decide, by decide⟩⟩

theorem witness_FramesFollowInAcceptanceOrder :
    let ops : List (Nat × Pos × Intensity × Color) := [(0, 1, 2, 3), (5, 255, 0, 0)]
    let s := hosted 50 [.issue (setColorWord 1 2 3), .pause 5, .issue (setColorWord 255 0 0)]
    s.atRest ∧ s.rspValid = false ∧
      s.queue = ops.flatMap (fun o => pauseOps o.1 ++ [.issue (setColorWord o.2.1 o.2.2.1 o.2.2.2)]) :=
  ⟨⟨rfl, rfl, rfl, rfl, by decide⟩, rfl, rfl⟩

theorem witness_FillRangeReachesTheLine : (hosted 50 [.call (.fillRange 62 4 1 1)]).atRest ∧
    (hosted 50 [.call (.fillRange 62 4 1 1)]).queue = [.call (.fillRange 62 4 1 1)] :=
  ⟨⟨rfl, rfl, rfl, rfl, by decide⟩, rfl⟩

theorem witness_WaveShape : (TimingConfig.legal ⟨1, 1, 1, 1, 1, 1⟩) = true ∧ (1 : Nat) ≤ 1 := by decide

/-- FillSequenceColorIssues, FillSequenceColorIntensityIssues, WholeStringIssues: both sides of the span test. -/
theorem witness_SequenceSpan : (0 : BitVec 8) = 0 ∧ (1 : BitVec 8) ≠ 0 := by decide

theorem witness_SequenceIndexLaw : (ready 50).queue = [] ∧
    (∃ t, exec (.fillSequenceColor 10 4 5 2 200 ⟨[], 0⟩) (ready 50) = .next t) ∧ 3 < (4 : BitVec 8).toNat :=
  ⟨rfl, ⟨_, rfl⟩, by decide⟩

theorem wordsOf_fadeIn (q : List HostOp) :
    wordsOf ((hosted 50 q).startBulk (fadeInOps true 1)).queue = wordsOfOps (fadeInOps true 1) ++ wordsOf q :=
  wordsOf_startBulk _ _

theorem wordsOf_fadeOut (q : List HostOp) :
    wordsOf ((hosted 50 q).startBulk (fadeOutOps true 1)).queue = wordsOfOps (fadeOutOps true 1) ++ wordsOf q :=
  wordsOf_startBulk _ _

/-- FadeInIssues: there is a next word at index 1 and, with the trailing sleep, one at index 256. -/
theorem witness_FadeInIssues :
    (wordsOf ((hosted 50 []).startBulk (fadeInOps true 1)).queue)[1]? = some (setColorWord 63 1 0) ∧
    (wordsOf ((hosted 50 [.issue 0]).startBulk (fadeInOps true 1)).queue)[256]? = some 0 ∧
    (hosted 50 []).inst.fadeTrailingSleep = true := by
  rw [wordsOf_fadeIn, wordsOf_fadeIn]
  exact ⟨rfl, rfl, rfl⟩

/-- FadeOutIssues: the same. -/
theorem witness_FadeOutIssues :
    (wordsOf ((hosted 50 []).startBulk (fadeOutOps true 1)).queue)[1]? = some (setColorWord 63 254 0) ∧
    (wordsOf ((hosted 50 [.issue 0]).startBulk (fadeOutOps true 1)).queue)[256]? = some 0 ∧
    (hosted 50 []).inst.fadeTrailingSleep = true := by
  rw [wordsOf_fadeOut, wordsOf_fadeOut]
  exact ⟨rfl, rfl, rfl⟩

theorem witness_TablesRepresentEveryFunction : 65789 ≤ 65789 ∧ 254 < (255 : BitVec 8).toNat := by decide

/-- ColorPacksChannels and ColorRoundTrip at the top of the range, ColorAboveRangeIsRefused just above it. -/
theorem witness_ColorRange : 15 ≤ 15 ∧ params.channelOrder = .rgb ∧ 15 < 16 := by decide

/-- ColorHueTable at the borders of the sextants, HueOutOfRangeIsRefused just above the last. -/
theorem witness_HueRange : (∀ h ∈ [(0 : BitVec 8), 15, 16, 31, 32, 47, 48, 63, 64, 79, 80, 95], h.toNat ≤ 95) ∧
    96 ≤ (96 : BitVec 8).toNat := by decide

end Sys2Proof.Tests
end

/-! The rows of host software (42_bulk R90, 43_color R119): what a bulk operation and a colour function can do to the
state, and what they leave alone (O43). -/

namespace Sys2Proof.Machine

/-- The eight bulk operations (R90 to R98). -/
def isBulkOperation : Instr → Bool
  | .fillRange _ _ _ _ => true
  | .fillRandom _ _ _ => true
  | .fillSequenceColor _ _ _ _ _ _ => true
  | .fillSequenceColorIntensity _ _ _ _ _ => true
  | .fillSequenceWholeString _ _ _ => true
  | .enumerate _ => true
  | .fadeIn _ => true
  | .fadeOut _ => true
  | _ => false

/-- The four colour functions (R110 to R116). -/
def isColorFunction : Instr → Bool
  | .color _ _ _ => true
  | .colorHue _ => true
  | .rainbowColor _ => true
  | .maxColor _ => true
  | _ => false

/-- The host took some draws, then put some moves at the front of its queue. -/
def StartsBulk (s t : State) : Prop := ∃ draws ops, t = (s.tookDraws draws).startBulk ops

/-- Only `fillRandom` draws; every other bulk operation starts with no draw taken. -/
theorem startsBulk_of_eq_startBulk {s t : State} {ops : List BulkOp} (h : t = s.startBulk ops) : StartsBulk s t :=
  ⟨0, ops, h⟩

theorem startsBulk_of_requireSpan {n : BitVec 8} {s t : State} {ops : List BulkOp}
    (h : requireSpan n s ops = .next t) : StartsBulk s t :=
  startsBulk_of_eq_startBulk (requireSpan_next h).2

/-- Everything a bulk operation that is not refused can do (R90). -/
theorem exec_bulkOperation_next {i : Instr} {s t : State} (hi : isBulkOperation i = true) (h : exec i s = .next t) :
    StartsBulk s t := by
  cases i with
  | fillRange b n i c => cases h; exact startsBulk_of_eq_startBulk rfl
  | fillRandom b n i => cases h; exact ⟨n.toNat, _, rfl⟩
  | fillSequenceColor b n q k i f => exact startsBulk_of_requireSpan h
  | fillSequenceColorIntensity b n q k g => exact startsBulk_of_requireSpan h
  | fillSequenceWholeString q k form => exact startsBulk_of_requireSpan h
  | enumerate r => cases h; exact startsBulk_of_eq_startBulk rfl
  | fadeIn d => cases h; exact startsBulk_of_eq_startBulk rfl
  | fadeOut d => cases h; exact startsBulk_of_eq_startBulk rfl
  | _ => cases hi

/-- Everything a colour function that is not refused can do (R119). -/
theorem exec_colorFunction_next {i : Instr} {s t : State} (hi : isColorFunction i = true) (h : exec i s = .next t) :
    ∃ c, t = s.returnColor c := by
  cases i with
  | color r g b => obtain ⟨c, -, ht⟩ := giveColor_next h; exact ⟨c, ht⟩
  | colorHue hue => obtain ⟨c, -, ht⟩ := giveColor_next h; exact ⟨c, ht⟩
  | rainbowColor n => cases h; exact ⟨_, rfl⟩
  | maxColor n => cases h; exact ⟨_, rfl⟩
  | _ => cases hi

theorem StartsBulk.sameBlock {s t : State} (h : StartsBulk s t) : SameBlock s t := by
  obtain ⟨draws, ops, rfl⟩ := h
  simp [SameBlock, SameConfig, SameDatapath, SameResponse, SamePins]

theorem StartsBulk.retColor {s t : State} (h : StartsBulk s t) : t.retColor = s.retColor := by
  obtain ⟨draws, ops, rfl⟩ := h
  simp

/-- What the host was going to do stays behind the moves of the bulk operation (R90). -/
theorem StartsBulk.queue_suffix {s t : State} (h : StartsBulk s t) : s.queue <:+ t.queue := by
  obtain ⟨draws, ops, rfl⟩ := h
  exact List.suffix_append _ _

theorem State.returnColor_sameBlock (c : Color) (s : State) : SameBlock s (s.returnColor c) := by
  simp [SameBlock, SameConfig, SameDatapath, SameResponse, SamePins]

/-- Settles O43: a bulk operation only starts its moves, a colour function only returns its value. -/
theorem hostRowsFrame : Obligations.HostRowsFrame := by
  unfold Obligations.HostRowsFrame
  constructor
  · intro b n k i c q d f g form r s t j hj h
    have hbulk : isBulkOperation j = true := List.all_eq_true.mp (by rfl) j hj
    have hs : StartsBulk s t := exec_bulkOperation_next hbulk h
    exact ⟨hs.sameBlock, hs.retColor, hs.queue_suffix⟩
  · intro r g b n hue s t j hj h
    have hcolor : isColorFunction j = true := List.all_eq_true.mp (by rfl) j hj
    obtain ⟨c, rfl⟩ := exec_colorFunction_next hcolor h
    exact ⟨s.returnColor_sameBlock c, s.returnColor_queue c, s.returnColor_freeIdx c⟩

end Sys2Proof.Machine

/-! Construction (41_frame R75): what `create` answers, and the registers and the invariant of cycle 0 (O1, O2, O6). -/

namespace Sys2Proof.Machine

theorem timingLegal_iff (t : TimingConfig) :
    t.legal = true ↔ t.startHigh ≠ 0 ∧ t.oneLow ≠ 0 ∧ t.oneHigh ≠ 0 ∧ t.zeroLow ≠ 0 ∧ t.zeroHigh ≠ 0 ∧ t.endLow ≠ 0 := by
  simp only [TimingConfig.legal, Bool.and_eq_true, decide_eq_true_eq, and_assoc]

theorem instLegal_iff (p : InstanceParams) : p.legal = true ↔ 1 ≤ p.ticksPerUs := by
  simp only [InstanceParams.legal, decide_eq_true_eq]

section
variable {line : Nat} {lc : BitVec 8} {t : TimingConfig} {p : InstanceParams}

theorem create_of_illegalTiming (ht : t.legal = false) : create line lc t p = .refused .illegalTiming :=
  if_pos ht

theorem create_of_legal (ht : t.legal = true) (hp : p.legal = true) :
    create line lc t p = .next (State.construct line lc t p) := by
  simp [create, ht, hp]

/-- Everything a construction that is not refused can give. -/
theorem create_next {s : State} (h : create line lc t p = .next s) :
    t.legal = true ∧ p.legal = true ∧ s = State.construct line lc t p := by
  unfold create at h
  split at h
  · cases h
  · rename_i ht
    split at h
    · cases h
    · rename_i hp
      cases h
      exact ⟨Bool.eq_true_of_not_eq_false ht, Bool.eq_true_of_not_eq_false hp, rfl⟩

theorem construct_inv (ht : t.legal = true) (hp : p.legal = true) : (State.construct line lc t p).Inv := by
  have hconfig : (State.construct line lc t p).legalConfig = true := Bool.and_eq_true_iff.mpr ⟨ht, hp⟩
  have hphase : (State.construct line lc t p).phaseOk := ⟨rfl, rfl⟩
  have hrsp : (State.construct line lc t p).rspOk := ⟨by simp [State.construct], .inl rfl, fun _ => rfl⟩
  exact ⟨hconfig, iff_of_true rfl rfl, hphase, hrsp⟩

end

/-- Settles O1: what `create` answers is `State.construct`, whose registers are those of R23. -/
theorem constructionResetValues : Obligations.ConstructionResetValues := by
  unfold Obligations.ConstructionResetValues
  intro line lc t p s h
  obtain ⟨-, -, rfl⟩ := create_next h
  simp [State.construct]

/-- Settles O2: the first test of `create` is the one of the six fields, the second that of `K`. -/
theorem zeroTimingIsRefused : Obligations.ZeroTimingIsRefused := by
  unfold Obligations.ZeroTimingIsRefused
  intro line lc t p
  constructor
  · intro hzero
    refine create_of_illegalTiming (Bool.eq_false_iff.mpr fun hlegal => ?_)
    have hfields := (timingLegal_iff t).mp hlegal
    tauto
  · intro h1 h2 h3 h4 h5 h6 hk
    exact create_of_legal ((timingLegal_iff t).mpr ⟨h1, h2, h3, h4, h5, h6⟩) ((instLegal_iff p).mpr hk)

/-- Settles O6: the constructed state is idle, LOW, driven and silent, and its configuration was tested. -/
theorem constructedInstanceMeetsInvariant : Obligations.ConstructedInstanceMeetsInvariant := by
  unfold Obligations.ConstructedInstanceMeetsInvariant
  intro line lc t p s h
  obtain ⟨ht, hp, rfl⟩ := create_next h
  exact construct_inv ht hp

end Sys2Proof.Machine

/-! The four primitives (40_waveform R65 to R68): the phase each leads to, and what each leaves alone (O42). -/

namespace Sys2Proof.Machine

/-- A cycle of a hold that is not over (R72). -/
def State.countDown (s : State) : State := { s with tmr := s.tmr - 1 }

/-- A cycle of a hold counts down, or ends the phase where the timer is at most 1. -/
theorem hold_cases (s ended : State) :
    (1 < s.tmr ∧ hold s ended = s.countDown) ∨ (s.tmr ≤ 1 ∧ hold s ended = ended) := by
  rcases Nat.lt_or_ge 1 s.tmr with ht | ht
  · exact .inl ⟨ht, hold_running ht ended⟩
  · exact .inr ⟨ht, hold_ended ht ended⟩

/-- What counting down and ending the phase both give, a hold gives. -/
theorem hold_of_both {P : State → Prop} {s ended : State} (hrun : 1 < s.tmr → P s.countDown)
    (hend : P ended) : P (hold s ended) := by
  rcases hold_cases s ended with ⟨ht, h⟩ | ⟨-, h⟩
  · rw [h]; exact hrun ht
  · rw [h]; exact hend

/-- A phase is left only in the last cycle of its hold, whatever the host's reset does in it. -/
theorem hold_resetTick_phase {s ended : State} {p q : Phase} (hp : s.phase = p) (hq : ended.phase = q) :
    (hold s ended).resetTick.phase = p ∨ (s.tmr ≤ 1 ∧ (hold s ended).resetTick.phase = q) := by
  rw [State.resetTick_phase]
  rcases hold_cases s ended with ⟨-, h⟩ | ⟨ht, h⟩
  · exact .inl (by rw [h]; exact hp)
  · exact .inr ⟨ht, by rw [h, hq]⟩

theorem State.endCell_phase (s : State) : s.endCell.phase = if s.bitcnt = 1 then .quiet else .bitLow := by
  unfold State.endCell
  split <;> rfl

/-- Only the frame in flight, the line register and the response can differ: what every primitive keeps (R11). -/
structure KeepsSurroundings (s t : State) : Prop where
  config : SameConfig s t
  pins : SamePins s t
  host : SameHost s t

/-- What the start pulse and the cells keep beyond that: no response is touched before the quiet period ends (R72). -/
structure KeepsResponse (s t : State) : Prop where
  response : SameResponse s t
  owed : t.rspOwed = s.rspOwed

theorem State.countDown_keepsSurroundings (s : State) : KeepsSurroundings s s.countDown :=
  ⟨⟨rfl, rfl, rfl, rfl⟩, ⟨rfl, rfl⟩, rfl, rfl, rfl⟩

theorem State.enterLow_keepsSurroundings (b : Bool) (s : State) : KeepsSurroundings s (s.enterLow b) :=
  ⟨⟨rfl, rfl, rfl, rfl⟩, ⟨rfl, rfl⟩, rfl, rfl, rfl⟩

theorem State.enterHigh_keepsSurroundings (b : Bool) (s : State) : KeepsSurroundings s (s.enterHigh b) :=
  ⟨⟨rfl, rfl, rfl, rfl⟩, ⟨rfl, rfl⟩, rfl, rfl, rfl⟩

theorem State.endCell_keepsSurroundings (s : State) : KeepsSurroundings s s.endCell := by
  unfold State.endCell
  split <;> exact ⟨⟨rfl, rfl, rfl, rfl⟩, ⟨rfl, rfl⟩, rfl, rfl, rfl⟩

theorem State.endFrame_keepsSurroundings (s : State) : KeepsSurroundings s s.endFrame :=
  ⟨⟨rfl, rfl, rfl, rfl⟩, ⟨rfl, rfl⟩, rfl, rfl, rfl⟩

theorem State.countDown_keepsResponse (s : State) : KeepsResponse s s.countDown := ⟨⟨rfl, rfl, rfl⟩, rfl⟩

theorem State.enterLow_keepsResponse (b : Bool) (s : State) : KeepsResponse s (s.enterLow b) := ⟨⟨rfl, rfl, rfl⟩, rfl⟩

theorem State.enterHigh_keepsResponse (b : Bool) (s : State) : KeepsResponse s (s.enterHigh b) := ⟨⟨rfl, rfl, rfl⟩, rfl⟩

theorem State.endCell_keepsResponse (s : State) : KeepsResponse s s.endCell := by
  unfold State.endCell
  split <;> exact ⟨⟨rfl, rfl, rfl⟩, rfl⟩

theorem hold_keepsSurroundings {s ended : State} (h : KeepsSurroundings s ended) :
    KeepsSurroundings s (hold s ended) :=
  hold_of_both (fun _ => s.countDown_keepsSurroundings) h

theorem hold_keepsResponse {s ended : State} (h : KeepsResponse s ended) : KeepsResponse s (hold s ended) :=
  hold_of_both (fun _ => s.countDown_keepsResponse) h

theorem execFrameStart_keepsSurroundings {s t : State} (h : execFrameStart s = .next t) : KeepsSurroundings s t := by
  obtain ⟨-, rfl⟩ := execFrameStart_next h
  exact hold_keepsSurroundings (s.enterLow_keepsSurroundings _)

theorem cellCycle_keepsSurroundings {b : Bool} {s t : State} (h : cellCycle b s = .next t) : KeepsSurroundings s t := by
  obtain ⟨-, ⟨-, rfl⟩ | ⟨-, rfl⟩⟩ := cellCycle_next h
  · exact hold_keepsSurroundings (s.enterHigh_keepsSurroundings b)
  · exact hold_keepsSurroundings s.endCell_keepsSurroundings

theorem execFrameEnd_keepsSurroundings {s t : State} (h : execFrameEnd s = .next t) : KeepsSurroundings s t := by
  obtain ⟨-, rfl⟩ := execFrameEnd_next h
  exact hold_keepsSurroundings s.endFrame_keepsSurroundings

theorem cellCycle_keepsResponse {b : Bool} {s t : State} (h : cellCycle b s = .next t) : KeepsResponse s t := by
  obtain ⟨-, ⟨-, rfl⟩ | ⟨-, rfl⟩⟩ := cellCycle_next h
  · exact hold_keepsResponse (s.enterHigh_keepsResponse b)
  · exact hold_keepsResponse s.endCell_keepsResponse

/-- The start pulse touches `PH`, `TMR` and `DOUT` alone (R65). -/
theorem execFrameStart_keeps {s t : State} (h : execFrameStart s = .next t) :
    KeepsResponse s t ∧ t.sr = s.sr ∧ t.bitcnt = s.bitcnt := by
  obtain ⟨-, rfl⟩ := execFrameStart_next h
  refine ⟨hold_keepsResponse (s.enterLow_keepsResponse _), ?_⟩
  rcases hold_cases s (s.enterLow (s.sr.getLsbD 25)) with ⟨-, h⟩ | ⟨-, h⟩ <;> rw [h] <;> exact ⟨rfl, rfl⟩

/-- The quiet period does not touch the shift register, the bit count and the line (R68). -/
theorem execFrameEnd_keeps {s t : State} (h : execFrameEnd s = .next t) :
    t.sr = s.sr ∧ t.bitcnt = s.bitcnt ∧ t.dout = s.dout := by
  obtain ⟨-, rfl⟩ := execFrameEnd_next h
  rcases hold_cases s s.endFrame with ⟨-, h⟩ | ⟨-, h⟩ <;> rw [h] <;> exact ⟨rfl, rfl, rfl⟩

/-- Settles O42: each primitive is one cycle of a hold, and neither the countdown nor the end of the phase writes
more. -/
theorem primitiveRowsFrame : Obligations.PrimitiveRowsFrame := by
  unfold Obligations.PrimitiveRowsFrame
  refine ⟨fun s t h => ?_, fun s t j hj h => ?_, fun s t h => ?_⟩
  · obtain ⟨hconfig, hpins, hhost⟩ := execFrameStart_keepsSurroundings h
    obtain ⟨⟨hrsp, howed⟩, hsr, hcnt⟩ := execFrameStart_keeps h
    exact ⟨hconfig, hpins, hhost, hrsp, howed, hsr, hcnt⟩
  · obtain ⟨b, hb⟩ : ∃ b, cellCycle b s = .next t := by
      rcases List.mem_pair.mp hj with rfl | rfl
      · exact ⟨true, h⟩
      · exact ⟨false, h⟩
    obtain ⟨hconfig, hpins, hhost⟩ := cellCycle_keepsSurroundings hb
    obtain ⟨hrsp, howed⟩ := cellCycle_keepsResponse hb
    exact ⟨hconfig, hpins, hhost, hrsp, howed⟩
  · obtain ⟨hconfig, hpins, hhost⟩ := execFrameEnd_keepsSurroundings h
    exact ⟨hconfig, hpins, hhost, execFrameEnd_keeps h⟩

end Sys2Proof.Machine

/-! The host's action on an idle block (41_frame R80, 30_encoding R57): everything an instruction the host can start
does, and with it the configuration (O7) and the order of the phases (O9). -/

namespace Sys2Proof.Machine

/-- What an instruction the host can start does to a state. A response carries data only with DONE, and then the light
count (R52). -/
inductive HostActed (s : State) : State → Prop where
  /-- A command where the port is not ready (R79). -/
  | ignored : HostActed s s
  /-- A transmitting command accepted (R76, R77). -/
  | started (f : FrameBits) (hready : s.cmdReady = true) : HostActed s (s.startFrame f)
  /-- A command answered at once (R77, R78, R82). -/
  | answered (code : RspCode) (data : BitVec 8) (hready : s.cmdReady = true)
      (hdata : data = 0 ∨ (code = .done ∧ data = s.lightCount)) : HostActed s (s.respond code data)
  /-- A bulk operation (R90). -/
  | bulk {t : State} (ht : StartsBulk s t) : HostActed s t
  /-- A colour function (R119). -/
  | returned (c : Color) : HostActed s (s.returnColor c)

theorem hostActed_of_atPort {s t u : State} (h : atPort s t = .next u) (ht : s.cmdReady = true → HostActed s t) :
    HostActed s u := by
  rcases atPort_next h with ⟨hready, rfl⟩ | ⟨-, rfl⟩
  · exact ht hready
  · exact .ignored

theorem hostActed_of_illegalWord {s t : State} (h : illegalWord s = .next t) : HostActed s t :=
  hostActed_of_atPort h fun hready => .answered .illegal 0 hready (.inl rfl)

/-- Everything an instruction the host can start does where it is not refused. -/
theorem exec_hostCallable_next {i : Instr} {s t : State} (hi : hostCallable i = true) (h : exec i s = .next t) :
    HostActed s t := by
  cases i with
  | setColor p n c => exact hostActed_of_atPort h (.started _)
  | setColorIfInRange p n c =>
    refine hostActed_of_atPort h fun hready => ?_
    cases s.inRange p with
    | true => exact .started _ hready
    | false => exact .answered .outOfRange 0 hready (.inl rfl)
  | getLightCount x => exact hostActed_of_atPort h fun hready => .answered .done _ hready (.inr ⟨rfl, rfl⟩)
  | reservedOp0 x => exact hostActed_of_illegalWord h
  | reservedOp4 x => exact hostActed_of_illegalWord h
  | reservedOp5 x => exact hostActed_of_illegalWord h
  | reservedOp6 x => exact hostActed_of_illegalWord h
  | reservedOp7 x => exact hostActed_of_illegalWord h
  | reservedRsv1 x => exact hostActed_of_illegalWord h
  | frame | frameStart | logicOne | logicZero | frameEnd | rsp => cases hi
  | color | colorHue | rainbowColor | maxColor =>
    obtain ⟨c, rfl⟩ := exec_colorFunction_next rfl h
    exact .returned c
  | fillRange | fillRandom | fillSequenceColor | fillSequenceColorIntensity | fillSequenceWholeString | enumerate
  | fadeIn | fadeOut => exact .bulk (exec_bulkOperation_next rfl h)

theorem hostCallable_decodeCommand (w : CommandWord) : hostCallable (decodeCommand w) = true := by
  unfold decodeCommand
  split
  · rfl
  · split <;> rfl

section
variable {s t : State}

theorem HostActed.sameConfig (h : HostActed s t) : SameConfig s t := by
  cases h with
  | ignored => exact ⟨rfl, rfl, rfl, rfl⟩
  | started f hready => exact ⟨rfl, rfl, rfl, rfl⟩
  | answered code data hready hdata => exact ⟨rfl, rfl, rfl, rfl⟩
  | bulk ht => obtain ⟨hconfig, -⟩ := ht.sameBlock; exact hconfig
  | returned c => exact ⟨rfl, rfl, rfl, rfl⟩

theorem HostActed.samePins (h : HostActed s t) : SamePins s t := by
  cases h with
  | ignored => exact ⟨rfl, rfl⟩
  | started f hready => exact ⟨rfl, rfl⟩
  | answered code data hready hdata => exact ⟨rfl, rfl⟩
  | bulk ht => obtain ⟨-, -, -, hpins⟩ := ht.sameBlock; exact hpins
  | returned c => exact ⟨rfl, rfl⟩

/-- Nothing the host starts changes the phase but the acceptance of a frame (R36). -/
theorem HostActed.phase (h : HostActed s t) : t.phase = s.phase ∨ t.phase = .start := by
  cases h with
  | ignored => exact .inl rfl
  | started f hready => exact .inr rfl
  | answered code data hready hdata => exact .inl rfl
  | bulk ht => obtain ⟨-, ⟨hphase, -⟩, -⟩ := ht.sameBlock; exact .inl hphase
  | returned c => exact .inl rfl

/-- A cycle of the idle block: the host acts, on the state with the response cleared and its move taken off the queue,
and then its reset goes on (R80, log 26). -/
theorem step_idle_next (hr : s.rstCycles = 0) (hp : s.phase = .idle) (h : step s = .next t) :
    ∃ q u, HostActed (s.clearRsp.setQueue q) u ∧ t = u.resetTick := by
  rcases step_cases h with ⟨hr', -⟩ | ⟨-, i, u, hi, -⟩ | ⟨-, -, hhost⟩
  · exact absurd hr hr'
  · rw [(currentSymbol_none_iff s).mpr hp] at hi
    cases hi
  · rcases hhost with ⟨hq, rfl⟩ | ⟨w, q, u, -, hu, rfl⟩ | ⟨n, q, -, rfl⟩ | ⟨-, rfl⟩ | ⟨i, q, u, -, hi, hu, rfl⟩
    · exact ⟨s.queue, s.clearRsp, .ignored, (resetTick_of_noReset (by rw [State.clearRsp_queue, hq]; rfl)).symm⟩
    · exact ⟨q, u, exec_hostCallable_next (hostCallable_decodeCommand w) hu, rfl⟩
    · exact ⟨pauseLeft n q, _, .ignored, rfl⟩
    · exact ⟨s.queue, s.clearRsp, .ignored, rfl⟩
    · exact ⟨q, u, exec_hostCallable_next hi hu, rfl⟩

theorem SameConfig.resetTick (h : SameConfig s t) : SameConfig s t.resetTick := by
  simpa [SameConfig] using h

/-- No meaning writes the configuration (R13). -/
theorem exec_sameConfig {i : Instr} (h : exec i s = .next t) : SameConfig s t := by
  cases hi : hostCallable i with
  | true => exact (exec_hostCallable_next hi h).sameConfig
  | false =>
    cases i with
    | frame a n c => exact (hostActed_of_atPort h (.started _)).sameConfig
    | frameStart => exact (execFrameStart_keepsSurroundings h).config
    | logicOne => exact (cellCycle_keepsSurroundings (b := true) h).config
    | logicZero => exact (cellCycle_keepsSurroundings (b := false) h).config
    | frameEnd => exact (execFrameEnd_keepsSurroundings h).config
    | rsp code data => cases h; exact ⟨rfl, rfl, rfl, rfl⟩
    | _ => cases hi

/-- No clock cycle writes the configuration (R13, R161). -/
theorem step_sameConfig (h : step s = .next t) : SameConfig s t := by
  rcases step_cases h with ⟨-, rfl⟩ | ⟨-, i, u, -, hu, rfl⟩ | ⟨hr, hp, -⟩
  · exact ⟨rfl, rfl, rfl, rfl⟩
  · exact (exec_sameConfig (s := s.clearRsp) hu : SameConfig s u).resetTick
  · obtain ⟨q, u, hu, rfl⟩ := step_idle_next hr hp h
    exact (hu.sameConfig : SameConfig s u).resetTick

end

/-- Settles O7: no meaning and no clock edge writes a configuration field. -/
theorem configurationIsNeverWritten : Obligations.ConfigurationIsNeverWritten := by
  unfold Obligations.ConfigurationIsNeverWritten
  exact ⟨fun _ _ _ h => exec_sameConfig h, fun _ _ h => step_sameConfig h⟩

/-- Settles O9: the idle block is left only by an accepted frame, and a phase of the frame in flight only at the end of
its hold, to the phase its end enters. -/
theorem phaseOrder : Obligations.PhaseOrder := by
  unfold Obligations.PhaseOrder
  intro s t hrst h
  have hr : s.rstCycles = 0 := by simpa [State.rst] using hrst
  cases hp : s.phase with
  | idle =>
    obtain ⟨q, u, hu, rfl⟩ := step_idle_next hr hp h
    simpa [hp] using hu.phase
  | start =>
    rw [step_start hr hp] at h
    cases h
    exact hold_resetTick_phase (s := s.clearRsp) hp rfl
  | bitLow =>
    rw [step_bitLow hr hp] at h
    cases h
    exact hold_resetTick_phase (s := s.clearRsp) hp rfl
  | bitHigh =>
    rw [step_bitHigh hr hp] at h
    cases h
    exact hold_resetTick_phase (s := s.clearRsp) hp s.clearRsp.endCell_phase
  | quiet =>
    rw [step_quiet hr hp] at h
    cases h
    exact hold_resetTick_phase (s := s.clearRsp) hp rfl

end Sys2Proof.Machine

/-! The invariant of the encoder (10_state R11 to R16): every operation a step is made of keeps it, each phase's end at
its own place of the frame (O5). -/

namespace Sys2Proof.Machine

section
variable {s t ended : State} {b : Bool}

theorem one_le_ticks {us : BitVec 16} (hs : s.legalConfig = true) (hus : us ≠ 0) : 1 ≤ s.ticks us := by
  have hk : 1 ≤ s.inst.ticksPerUs := (instLegal_iff _).mp (Bool.and_eq_true_iff.mp hs).2
  have hpos : 0 < us.toNat := Nat.pos_of_ne_zero fun h => hus (BitVec.eq_of_toNat_eq h)
  exact Nat.mul_pos hk hpos

theorem one_le_startTicks (hs : s.legalConfig = true) : 1 ≤ s.ticks s.timing.startHigh := by
  obtain ⟨hstart, -⟩ := (timingLegal_iff _).mp (Bool.and_eq_true_iff.mp hs).1
  exact one_le_ticks hs hstart

theorem one_le_lowTicks (hs : s.legalConfig = true) (b : Bool) : 1 ≤ s.ticks (lowUs s.timing b) := by
  obtain ⟨-, hone, -, hzero, -⟩ := (timingLegal_iff _).mp (Bool.and_eq_true_iff.mp hs).1
  cases b with
  | true => exact one_le_ticks hs hone
  | false => exact one_le_ticks hs hzero

theorem one_le_highTicks (hs : s.legalConfig = true) (b : Bool) : 1 ≤ s.ticks (highUs s.timing b) := by
  obtain ⟨-, -, hone, -, hzero, -⟩ := (timingLegal_iff _).mp (Bool.and_eq_true_iff.mp hs).1
  cases b with
  | true => exact one_le_ticks hs hone
  | false => exact one_le_ticks hs hzero

theorem one_le_endTicks (hs : s.legalConfig = true) : 1 ≤ s.ticks s.timing.endLow := by
  obtain ⟨-, -, -, -, -, hend⟩ := (timingLegal_iff _).mp (Bool.and_eq_true_iff.mp hs).1
  exact one_le_ticks hs hend

/-! What the invariant says in each phase. -/

/-- What both parts of a bit cell say of the frame in flight: a DONE is owed, some bit is left, and the bits already
sent have left `SR`. -/
def State.cellOk (s : State) : Prop :=
  s.rspOwed = true ∧ 1 ≤ s.bitcnt.toNat ∧ s.bitcnt.toNat ≤ 26 ∧ s.sr <<< s.bitcnt.toNat = 0

theorem phaseOk_idle (hp : s.phase = .idle) : s.phaseOk ↔ s.dout = false ∧ s.rspOwed = false := by
  rw [State.phaseOk, hp]

theorem phaseOk_start (hp : s.phase = .start) :
    s.phaseOk ↔ s.dout = true ∧ s.rspOwed = true ∧ s.bitcnt = 26 ∧
      1 ≤ s.tmr ∧ s.tmr ≤ s.ticks s.timing.startHigh := by
  rw [State.phaseOk, hp]

theorem phaseOk_bitLow (hp : s.phase = .bitLow) :
    s.phaseOk ↔ s.dout = false ∧ s.cellOk ∧ 1 ≤ s.tmr ∧ s.tmr ≤ s.ticks (lowUs s.timing (s.sr.getLsbD 25)) := by
  rw [State.phaseOk, hp]
  simp only [State.cellOk, and_assoc]

theorem phaseOk_bitHigh (hp : s.phase = .bitHigh) :
    s.phaseOk ↔ s.dout = true ∧ s.cellOk ∧ 1 ≤ s.tmr ∧ s.tmr ≤ s.ticks (highUs s.timing (s.sr.getLsbD 25)) := by
  rw [State.phaseOk, hp]
  simp only [State.cellOk, and_assoc]

theorem phaseOk_quiet (hp : s.phase = .quiet) :
    s.phaseOk ↔ s.dout = false ∧ s.rspOwed = true ∧ s.bitcnt = 0 ∧ s.sr = 0 ∧
      1 ≤ s.tmr ∧ s.tmr ≤ s.ticks s.timing.endLow := by
  rw [State.phaseOk, hp]

/-- A hold that is not over stays in its phase and in the phase's bounds (R73). -/
theorem State.phaseOk.countDown (h : s.phaseOk) (ht : 1 < s.tmr) : s.countDown.phaseOk := by
  have hone : 1 ≤ s.tmr - 1 := Nat.le_sub_one_of_lt ht
  have hle : s.tmr - 1 ≤ s.tmr := Nat.sub_le _ _
  cases hp : s.phase with
  | idle => exact (phaseOk_idle (s := s.countDown) hp).mpr ((phaseOk_idle hp).mp h)
  | start =>
    obtain ⟨hdout, howed, hcnt, -, htmr⟩ := (phaseOk_start hp).mp h
    exact (phaseOk_start (s := s.countDown) hp).mpr ⟨hdout, howed, hcnt, hone, hle.trans htmr⟩
  | bitLow =>
    obtain ⟨hdout, hcell, -, htmr⟩ := (phaseOk_bitLow hp).mp h
    exact (phaseOk_bitLow (s := s.countDown) hp).mpr ⟨hdout, hcell, hone, hle.trans htmr⟩
  | bitHigh =>
    obtain ⟨hdout, hcell, -, htmr⟩ := (phaseOk_bitHigh hp).mp h
    exact (phaseOk_bitHigh (s := s.countDown) hp).mpr ⟨hdout, hcell, hone, hle.trans htmr⟩
  | quiet =>
    obtain ⟨hdout, howed, hcnt, hsr, -, htmr⟩ := (phaseOk_quiet hp).mp h
    exact (phaseOk_quiet (s := s.countDown) hp).mpr ⟨hdout, howed, hcnt, hsr, hone, hle.trans htmr⟩

theorem startFrame_phaseOk (hs : s.legalConfig = true) (f : FrameBits) : (s.startFrame f).phaseOk :=
  (phaseOk_start rfl).mpr ⟨rfl, rfl, rfl, one_le_startTicks hs, Nat.le_refl _⟩

theorem enterLow_phaseOk (hs : s.legalConfig = true) (hcell : s.cellOk) (hb : s.sr.getLsbD 25 = b) :
    (s.enterLow b).phaseOk := by
  subst hb
  exact (phaseOk_bitLow rfl).mpr ⟨rfl, hcell, one_le_lowTicks hs _, Nat.le_refl _⟩

theorem enterHigh_phaseOk (hs : s.legalConfig = true) (hcell : s.cellOk) (hb : s.sr.getLsbD 25 = b) :
    (s.enterHigh b).phaseOk := by
  subst hb
  exact (phaseOk_bitHigh rfl).mpr ⟨rfl, hcell, one_le_highTicks hs _, Nat.le_refl _⟩

/-- The first cell has the whole frame before it. -/
theorem cellOk_of_start (hp : s.phase = .start) (h : s.phaseOk) : s.cellOk := by
  obtain ⟨-, howed, hcnt, -, -⟩ := (phaseOk_start hp).mp h
  refine ⟨howed, ?_, ?_, ?_⟩ <;> simp [hcnt, BitVec.shiftLeft_eq_zero]

/-- One bit less to send, and one bit more that has left `SR`. -/
theorem State.cellOk.shiftBit (h : s.cellOk) (hmore : s.bitcnt ≠ 1) : s.shiftBit.cellOk := by
  obtain ⟨howed, hpos, hle, hsr⟩ := h
  have hne : s.bitcnt.toNat ≠ 1 := fun h1 => hmore (BitVec.eq_of_toNat_eq h1)
  have hcnt : (s.bitcnt - 1).toNat = s.bitcnt.toNat - 1 :=
    BitVec.toNat_sub_of_le (BitVec.le_def.mpr hpos)
  have hshift : s.sr <<< 1 <<< (s.bitcnt.toNat - 1) = s.sr <<< s.bitcnt.toNat := by
    rw [← BitVec.shiftLeft_add, Nat.add_sub_cancel' hpos]
  simp only [State.cellOk, State.shiftBit_rspOwed, State.shiftBit_bitcnt, State.shiftBit_sr, hcnt, hshift]
  exact ⟨howed, by omega, by omega, hsr⟩

/-- The end of a cell: after the last bit `SR` is empty, before it the next cell has its bit in `SR[25]`. -/
theorem endCell_phaseOk (hs : s.legalConfig = true) (hcell : s.cellOk) : s.endCell.phaseOk := by
  by_cases hlast : s.bitcnt = 1
  · obtain ⟨howed, -, -, hsr⟩ := hcell
    rw [endCell_last hlast]
    have hcnt : s.bitcnt - 1 = 0 := by rw [hlast]; rfl
    rw [hlast] at hsr
    exact (phaseOk_quiet rfl).mpr
      ⟨rfl, howed, hcnt, hsr, one_le_endTicks hs, Nat.le_refl _⟩
  · rw [endCell_more hlast]
    exact enterLow_phaseOk (s := s.shiftBit) hs (hcell.shiftBit hlast) (by simp)

/-! The rest of the invariant, which no phase matters to as long as no response is presented. -/

/-- The invariant but for the phase, in a state that presents no response: R14, R15 and R52. -/
structure State.SilentOk (s : State) : Prop where
  config : s.legalConfig = true
  driven : s.doutOe = true ↔ s.rstCycles = 0
  code : s.rspCode ≠ 3
  data : s.rspData = 0 ∨ (s.rspCode = 0 ∧ s.rspData = s.lightCount)
  silent : s.rspValid = false

theorem State.SilentOk.inv (h : s.SilentOk) (hphase : s.phaseOk) : s.Inv :=
  ⟨h.config, h.driven, hphase, h.code, h.data, fun hv => absurd (h.silent.symm.trans hv) Bool.false_ne_true⟩

theorem State.Inv.phaseOk (h : s.Inv) : s.phaseOk := h.2.2.1

theorem State.Inv.clearRsp_silentOk (h : s.Inv) : s.clearRsp.SilentOk := by
  obtain ⟨hconfig, hdriven, -, hcode, hdata, -⟩ := h
  exact ⟨hconfig, hdriven, hcode, hdata, rfl⟩

theorem State.SilentOk.of_keeps (h : s.SilentOk) (hkeeps : KeepsSurroundings s t) (hrsp : KeepsResponse s t) :
    t.SilentOk := by
  obtain ⟨⟨hlight, -, htiming, hinst⟩, ⟨hoe, hrst⟩, -⟩ := hkeeps
  obtain ⟨⟨hvalid, hcode, hdata⟩, -⟩ := hrsp
  constructor
  · rw [State.legalConfig, htiming, hinst]; exact h.config
  · rw [hoe, hrst]; exact h.driven
  · rw [hcode]; exact h.code
  · rw [hcode, hdata, hlight]; exact h.data
  · rw [hvalid]; exact h.silent

/-! The operations of a step. -/

theorem State.Inv.of_sameBlock (h : s.Inv) (hsame : SameBlock s t) : t.Inv := by
  obtain ⟨⟨hlight, -, htiming, hinst⟩, ⟨hphase, hsr, hcnt, htmr, hdout, howed⟩, ⟨hvalid, hcode, hdata⟩, hoe, hrst⟩ := hsame
  simpa only [State.Inv, State.legalConfig, State.phaseOk, State.rspOk, State.ticks, hlight, htiming, hinst, hphase, hsr,
    hcnt, htmr, hdout, howed, hvalid, hcode, hdata, hoe, hrst] using h

/-- The edge under reset. The line is driven again from the release of `rst` on (R15). -/
theorem State.Inv.resetEdge (h : s.Inv) : s.resetEdge.Inv := by
  obtain ⟨hconfig, -⟩ := h
  have hdriven : s.resetEdge.doutOe = true ↔ s.resetEdge.rstCycles = 0 := by
    rw [State.resetEdge_doutOe, State.resetEdge_rstCycles, decide_eq_true_eq]
    omega
  have hrsp : s.resetEdge.rspOk := ⟨by simp, .inl rfl, fun _ => rfl⟩
  exact ⟨hconfig, hdriven, (phaseOk_idle rfl).mpr ⟨rfl, rfl⟩, hrsp⟩

/-- The host's reset going on keeps the invariant: the line is released in the cycle in which `rst` becomes 1 (R15). -/
theorem State.Inv.resetTick (h : s.Inv) (hr : s.rstCycles = 0) : s.resetTick.Inv := by
  rcases resetTick_cases s with heq | ⟨k, n, q, -, heq⟩ | ⟨n, q, -, heq⟩ <;> rw [heq]
  · exact h
  · exact h
  · obtain ⟨hconfig, hdriven, hphase, hrsp⟩ := h
    have hoe : s.doutOe = true := hdriven.mpr hr
    exact ⟨hconfig, by simp [hoe], hphase, hrsp⟩

/-- The end of a frame presents the DONE it owed, from a block that is idle again (R72). -/
theorem endFrame_inv (hs : s.SilentOk) (hdout : s.dout = false) : s.endFrame.Inv := by
  have hrsp : s.endFrame.rspOk := ⟨by simp, .inl rfl, fun _ => rfl⟩
  exact ⟨hs.config, hs.driven, (phaseOk_idle rfl).mpr ⟨hdout, rfl⟩, hrsp⟩

/-- A command answered at once: an idle block presents a response with a code and data of R52. -/
theorem respond_inv {code : RspCode} {data : BitVec 8} (hs : s.SilentOk) (hphase : s.phaseOk) (hp : s.phase = .idle)
    (hdata : data = 0 ∨ (code = .done ∧ data = s.lightCount)) : (s.respond code data).Inv := by
  have hcode : rspCodeBits code ≠ 3 := by cases code <;> decide
  have hdata' : data = 0 ∨ (rspCodeBits code = 0 ∧ data = s.lightCount) :=
    hdata.imp_right (And.imp_left fun h => by rw [h]; rfl)
  exact ⟨hs.config, hs.driven, hphase, hcode, hdata', fun _ => hp⟩

theorem HostActed.inv (h : HostActed s t) (hs : s.SilentOk) (hphase : s.phaseOk) : t.Inv := by
  cases h with
  | ignored => exact hs.inv hphase
  | started f hready =>
    have hsilent : (s.startFrame f).SilentOk := ⟨hs.config, hs.driven, hs.code, hs.data, hs.silent⟩
    exact hsilent.inv (startFrame_phaseOk hs.config f)
  | answered code data hready hdata => exact respond_inv hs hphase ((cmdReady_iff s).mp hready).1 hdata
  | bulk ht => exact (hs.inv hphase).of_sameBlock ht.sameBlock
  | returned c => exact (hs.inv hphase).of_sameBlock (s.returnColor_sameBlock c)

/-- A cycle of a frame in flight keeps the invariant where the end of its phase meets it. -/
theorem hold_resetTick_inv (hs : s.SilentOk) (hphase : s.phaseOk) (hr : s.rstCycles = 0)
    (hkeeps : KeepsSurroundings s ended) (hended : ended.Inv) : (hold s ended).resetTick.Inv := by
  have hinv : (hold s ended).Inv := hold_of_both (fun ht => by
    have hsilent := hs.of_keeps s.countDown_keepsSurroundings s.countDown_keepsResponse
    exact hsilent.inv (hphase.countDown ht)) hended
  obtain ⟨-, ⟨-, hrst⟩, -⟩ := hold_keepsSurroundings hkeeps
  exact hinv.resetTick (hrst.trans hr)

end

/-- Settles O5: under reset every register takes its reset value; an idle block does what the host starts; a frame in
flight counts down, or ends a phase and enters the next with its level, its hold and the bits still to send. -/
theorem stepKeepsEncoderInvariant : Obligations.StepKeepsEncoderInvariant := by
  unfold Obligations.StepKeepsEncoderInvariant
  intro s t hs h
  by_cases hr : s.rstCycles = 0
  case neg =>
    rw [step_of_idles (activity_reset hr)] at h
    cases h
    exact hs.resetEdge
  have hsilent : s.clearRsp.SilentOk := hs.clearRsp_silentOk
  have hphase : s.clearRsp.phaseOk := hs.phaseOk
  cases hp : s.phase with
  | idle =>
    obtain ⟨q, u, hu, rfl⟩ := step_idle_next hr hp h
    obtain ⟨-, hrst⟩ := hu.samePins
    have hqueue : (s.clearRsp.setQueue q).SilentOk :=
      ⟨hsilent.config, hsilent.driven, hsilent.code, hsilent.data, hsilent.silent⟩
    exact (hu.inv hqueue hphase).resetTick (hrst.trans hr)
  | start =>
    rw [step_start hr hp] at h
    cases h
    have hkeeps := s.clearRsp.enterLow_keepsSurroundings (s.sr.getLsbD 25)
    have hended := enterLow_phaseOk hsilent.config (cellOk_of_start (s := s.clearRsp) hp hphase) rfl
    exact hold_resetTick_inv hsilent hphase hr hkeeps
      ((hsilent.of_keeps hkeeps (State.enterLow_keepsResponse _ _)).inv hended)
  | bitLow =>
    rw [step_bitLow hr hp] at h
    cases h
    obtain ⟨-, hcell, -⟩ := (phaseOk_bitLow (s := s.clearRsp) hp).mp hphase
    have hkeeps := s.clearRsp.enterHigh_keepsSurroundings (s.sr.getLsbD 25)
    exact hold_resetTick_inv hsilent hphase hr hkeeps
      ((hsilent.of_keeps hkeeps (State.enterHigh_keepsResponse _ _)).inv (enterHigh_phaseOk hsilent.config hcell rfl))
  | bitHigh =>
    rw [step_bitHigh hr hp] at h
    cases h
    obtain ⟨-, hcell, -⟩ := (phaseOk_bitHigh (s := s.clearRsp) hp).mp hphase
    have hkeeps := s.clearRsp.endCell_keepsSurroundings
    exact hold_resetTick_inv hsilent hphase hr hkeeps
      ((hsilent.of_keeps hkeeps s.clearRsp.endCell_keepsResponse).inv (endCell_phaseOk hsilent.config hcell))
  | quiet =>
    rw [step_quiet hr hp] at h
    cases h
    obtain ⟨hdout, -⟩ := (phaseOk_quiet (s := s.clearRsp) hp).mp hphase
    exact hold_resetTick_inv hsilent hphase hr s.clearRsp.endFrame_keepsSurroundings (endFrame_inv hsilent hdout)

end Sys2Proof.Machine

/-! What the command words, FRAME and RSP leave alone (41_frame R76 to R78, 30_encoding R53), where the primitives are
refused (log 16), and what makes an idle block busy (20_memory R36): O41, O33, O10. -/

namespace Sys2Proof.Machine

section
variable {s t u : State}

/-- What an unready port keeps and an accepted command gives, a command gives. -/
theorem atPort_of_both {P : State → Prop} (h : atPort s t = .next u) (hs : P s) (ht : P t) : P u := by
  rcases atPort_next h with ⟨-, rfl⟩ | ⟨-, rfl⟩
  · exact ht
  · exact hs

theorem KeepsSurroundings.refl (s : State) : KeepsSurroundings s s :=
  ⟨⟨rfl, rfl, rfl, rfl⟩, ⟨rfl, rfl⟩, rfl, rfl, rfl⟩

theorem State.startFrame_keepsSurroundings (f : FrameBits) (s : State) : KeepsSurroundings s (s.startFrame f) :=
  ⟨⟨rfl, rfl, rfl, rfl⟩, ⟨rfl, rfl⟩, rfl, rfl, rfl⟩

theorem State.respond_keepsSurroundings (code : RspCode) (data : BitVec 8) (s : State) :
    KeepsSurroundings s (s.respond code data) :=
  ⟨⟨rfl, rfl, rfl, rfl⟩, ⟨rfl, rfl⟩, rfl, rfl, rfl⟩

/-- What a transmitting command keeps: everything but the frame in flight, the line and the owed DONE (R76). -/
structure OnlyTransmits (s t : State) : Prop where
  surroundings : KeepsSurroundings s t
  response : SameResponse s t

/-- What an answered command keeps: everything but the response (R53, R78). -/
structure OnlyAnswers (s t : State) : Prop where
  surroundings : KeepsSurroundings s t
  datapath : SameDatapath s t

theorem onlyTransmits_of_atPort {f : FrameBits} (h : atPort s (s.startFrame f) = .next t) : OnlyTransmits s t :=
  atPort_of_both h ⟨.refl s, rfl, rfl, rfl⟩ ⟨s.startFrame_keepsSurroundings f, rfl, rfl, rfl⟩

theorem State.respond_onlyAnswers (code : RspCode) (data : BitVec 8) (s : State) : OnlyAnswers s (s.respond code data) :=
  ⟨s.respond_keepsSurroundings code data, rfl, rfl, rfl, rfl, rfl, rfl⟩

theorem onlyAnswers_of_atPort {code : RspCode} {data : BitVec 8} (h : atPort s (s.respond code data) = .next t) :
    OnlyAnswers s t :=
  atPort_of_both h ⟨.refl s, rfl, rfl, rfl, rfl, rfl, rfl⟩ (s.respond_onlyAnswers code data)

/-- The guarded command transmits below the light count and answers from it on (R77). -/
theorem execSetColorIfInRange_below {p : Pos} {i : Intensity} {c : Color} (hp : p.toNat < s.lightCount.toNat) :
    execSetColorIfInRange p i c s = atPort s (s.startFrame (frameOf p i c)) := by
  simp [execSetColorIfInRange, State.inRange, hp]

theorem execSetColorIfInRange_above {p : Pos} {i : Intensity} {c : Color} (hp : ¬ p.toNat < s.lightCount.toNat) :
    execSetColorIfInRange p i c s = atPort s (s.respond .outOfRange 0) := by
  simp [execSetColorIfInRange, State.inRange, hp]

/-- The rows that are always answered at once: GET_LIGHT_COUNT, the six illegal rows and RSP. -/
def isAnsweringRow : Instr → Bool
  | .getLightCount _ => true
  | .reservedOp0 _ => true
  | .reservedOp4 _ => true
  | .reservedOp5 _ => true
  | .reservedOp6 _ => true
  | .reservedOp7 _ => true
  | .reservedRsv1 _ => true
  | .rsp _ _ => true
  | _ => false

theorem exec_answeringRow_next {i : Instr} (hi : isAnsweringRow i = true) (h : exec i s = .next t) :
    OnlyAnswers s t := by
  cases i with
  | getLightCount | reservedOp0 | reservedOp4 | reservedOp5 | reservedOp6 | reservedOp7 | reservedRsv1 =>
    exact onlyAnswers_of_atPort h
  | rsp code data => cases h; exact s.respond_onlyAnswers code data
  | _ => cases hi

end

/-- Settles O41: a row transmits or answers at the port, or nothing happens. -/
theorem commandRowsFrame : Obligations.CommandRowsFrame := by
  unfold Obligations.CommandRowsFrame
  refine ⟨fun p a i c s t j hj h => ?_, fun p i c s t h => ?_, fun x y k d s t j hj h => ?_⟩
  · have hsent : OnlyTransmits s t := by
      rcases List.mem_pair.mp hj with rfl | rfl <;> exact onlyTransmits_of_atPort h
    obtain ⟨⟨hconfig, hpins, hhost⟩, hrsp⟩ := hsent
    exact ⟨hconfig, hpins, hhost, hrsp⟩
  · by_cases hp : p.toNat < s.lightCount.toNat
    · obtain ⟨⟨hconfig, hpins, hhost⟩, hrsp⟩ :=
        onlyTransmits_of_atPort ((execSetColorIfInRange_below hp).symm.trans h)
      exact ⟨hconfig, hpins, hhost, by rwa [if_pos hp]⟩
    · obtain ⟨⟨hconfig, hpins, hhost⟩, hdata⟩ :=
        onlyAnswers_of_atPort ((execSetColorIfInRange_above hp).symm.trans h)
      exact ⟨hconfig, hpins, hhost, by rwa [if_neg hp]⟩
  · have hanswers : isAnsweringRow j = true := List.all_eq_true.mp (by rfl) j hj
    obtain ⟨⟨hconfig, hpins, hhost⟩, hdata⟩ := exec_answeringRow_next hanswers h
    exact ⟨hconfig, hpins, hhost, hdata⟩

/-! A primitive away from its place (log 16). -/

section
variable {s : State} {b : Bool}

theorem execFrameStart_outOfPlace (hp : s.phase ≠ .start) : execFrameStart s = .refused .primitiveOutOfPlace := by
  unfold execFrameStart
  split
  · contradiction
  · rfl

theorem execFrameEnd_outOfPlace (hp : s.phase ≠ .quiet) : execFrameEnd s = .refused .primitiveOutOfPlace := by
  unfold execFrameEnd
  split
  · contradiction
  · rfl

theorem cellCycle_outOfPlace (h : s.sr.getLsbD 25 = !b ∨ (s.phase ≠ .bitLow ∧ s.phase ≠ .bitHigh)) :
    cellCycle b s = .refused .primitiveOutOfPlace := by
  unfold cellCycle
  rcases h with hb | ⟨hlow, hhigh⟩
  · rw [hb, if_neg (by simp)]
  · split
    · split
      · contradiction
      · contradiction
      · rfl
    · rfl

end

/-- Settles O33: each primitive has a meaning in its own phase alone, and a cell for its own bit alone. -/
theorem primitivesCannotBeIssuedAlone : Obligations.PrimitivesCannotBeIssuedAlone := by
  unfold Obligations.PrimitivesCannotBeIssuedAlone
  intro s
  exact ⟨execFrameStart_outOfPlace, execFrameEnd_outOfPlace, cellCycle_outOfPlace (b := true),
    cellCycle_outOfPlace (b := false)⟩

/-! What makes an idle block busy (R36, R133). -/

section
variable {s t : State} {i : Instr}

theorem transmitted_of_atPort {f : FrameBits} (h : atPort s (s.startFrame f) = .next t) (hp : s.phase = .idle)
    (ht : t.phase ≠ .idle) : t = s.startFrame f := by
  rcases atPort_next h with ⟨-, rfl⟩ | ⟨-, rfl⟩
  · rfl
  · exact absurd hp ht

theorem OnlyAnswers.phase (h : OnlyAnswers s t) : t.phase = s.phase := by
  obtain ⟨-, hphase, -⟩ := h
  exact hphase

theorem SameBlock.phase (h : SameBlock s t) : t.phase = s.phase := by
  obtain ⟨-, ⟨hphase, -⟩, -⟩ := h
  exact hphase

/-- Of what the host can start, only a transmitting command makes an idle block busy, and it sends its frame. -/
theorem exec_hostCallable_busy (hi : hostCallable i = true) (h : exec i s = .next t) (hp : s.phase = .idle)
    (ht : t.phase ≠ .idle) : ∃ f, Transmits s i f ∧ t = s.startFrame f := by
  have notKept (hsame : t.phase = s.phase) : False := ht (hsame.trans hp)
  cases i with
  | setColor p n c => exact ⟨_, .inl ⟨p, n, c, rfl, rfl⟩, transmitted_of_atPort h hp ht⟩
  | setColorIfInRange p n c =>
    by_cases hpos : p.toNat < s.lightCount.toNat
    · have hsent := (execSetColorIfInRange_below hpos).symm.trans h
      exact ⟨_, .inr ⟨p, n, c, rfl, hpos, rfl⟩, transmitted_of_atPort hsent hp ht⟩
    · exact (notKept (onlyAnswers_of_atPort ((execSetColorIfInRange_above hpos).symm.trans h)).phase).elim
  | getLightCount | reservedOp0 | reservedOp4 | reservedOp5 | reservedOp6 | reservedOp7 | reservedRsv1 =>
    exact (notKept (exec_answeringRow_next rfl h).phase).elim
  | fillRange | fillRandom | fillSequenceColor | fillSequenceColorIntensity | fillSequenceWholeString | enumerate
  | fadeIn | fadeOut => exact (notKept (exec_bulkOperation_next rfl h).sameBlock.phase).elim
  | color | colorHue | rainbowColor | maxColor =>
    obtain ⟨c, rfl⟩ := exec_colorFunction_next rfl h
    exact (notKept rfl).elim
  | frame | frameStart | logicOne | logicZero | frameEnd | rsp => cases hi

end

/-- Settles O10: a reset, a pause and an empty queue leave an idle block idle; a word and a call run an instruction the
host can start. -/
theorem onlyTransmittingCommandStartsFrame : Obligations.OnlyTransmittingCommandStartsFrame := by
  unfold Obligations.OnlyTransmittingCommandStartsFrame
  intro s t hs h ht
  have hp : s.phase = .idle := by simpa [State.busy] using hs
  have ht : t.phase ≠ .idle := (busy_iff t).mp ht
  rcases step_cases h with ⟨-, rfl⟩ | ⟨-, i, u, hi, -⟩ | ⟨hr, -, hhost⟩
  · exact absurd rfl ht
  · rw [(currentSymbol_none_iff s).mpr hp] at hi
    cases hi
  have hrst : s.rst = false := by simp [State.rst, hr]
  have started {i : Instr} {q : List HostOp} {u : State} (hi : hostCallable i = true)
      (hu : exec i (s.clearRsp.setQueue q) = .next u) (hbusy : u.resetTick.phase ≠ .idle) :
      ∃ f, Transmits s i f ∧ u.resetTick.sr = f ∧ u.resetTick.bitcnt = 26 ∧ u.resetTick.phase = .start ∧
        u.resetTick.dout = true := by
    rw [State.resetTick_phase] at hbusy
    obtain ⟨f, hf, rfl⟩ := exec_hostCallable_busy hi hu hp hbusy
    exact ⟨f, hf, by simp⟩
  rcases hhost with ⟨-, rfl⟩ | ⟨w, q, u, hq, hu, rfl⟩ | ⟨n, q, -, rfl⟩ | ⟨-, rfl⟩ | ⟨i, q, u, hq, hi, hu, rfl⟩
  · exact absurd hp ht
  · obtain ⟨f, hf⟩ := started (hostCallable_decodeCommand w) hu ht
    exact ⟨hrst, _, f, q, .inr ⟨w, hq, rfl⟩, hf⟩
  · exact (ht ((State.resetTick_phase _).trans hp)).elim
  · exact (ht ((State.resetTick_phase _).trans hp)).elim
  · obtain ⟨f, hf⟩ := started hi hu ht
    exact ⟨hrst, i, f, q, .inl hq, hf⟩

end Sys2Proof.Machine

/-! A hold of the frame in flight (20_memory R37, 40_waveform R71, R73), one cycle at a time (O34). -/

namespace Sys2Proof.Machine

section
variable {s : State}

/-- A cycle of a hold that is not over, of a frame no reset waits for. -/
theorem step_countDown (hr : s.rstCycles = 0) (hp : s.phase ≠ .idle) (hq : noResetNext s.queue = true) (ht : 1 < s.tmr) :
    step s = .next s.clearRsp.countDown := by
  rw [step_hold hr hp ht]
  exact congrArg _ (resetTick_of_noReset hq)

/-- Every cycle of a hold but the last counts down, and nothing else of the frame moves (R37, R73). -/
theorem runCycles_hold {n : Nat} (hr : s.rstCycles = 0) (hp : s.phase ≠ .idle) (hq : noResetNext s.queue = true)
    (hn : n < s.tmr) :
    ∃ t, runCycles n s = .next t ∧ t.phase = s.phase ∧ t.dout = s.dout ∧ t.tmr = s.tmr - n ∧ t.sr = s.sr ∧
      t.bitcnt = s.bitcnt ∧ t.queue = s.queue := by
  induction n generalizing s with
  | zero => exact ⟨s, rfl, rfl, rfl, rfl, rfl, rfl, rfl⟩
  | succ n ih =>
    rw [runCycles_succ_next (step_countDown hr hp hq (by omega))]
    obtain ⟨t, hrun, hphase, hdout, htmr, hrest⟩ :=
      ih (s := s.clearRsp.countDown) hr hp hq (Nat.lt_sub_of_add_lt hn)
    exact ⟨t, hrun, hphase, hdout, htmr.trans (Nat.sub_right_comm s.tmr 1 n), hrest⟩

end

/-- Settles O34: by induction on the cycles, each of which counts down. -/
theorem holdRunsItsLength : Obligations.HoldRunsItsLength := by
  unfold Obligations.HoldRunsItsLength
  intro s n hrst hbusy hq hn
  exact runCycles_hold (by simpa [State.rst] using hrst) ((busy_iff s).mp hbusy) hq hn

end Sys2Proof.Machine

/-! A frame as what it puts on the line, cycle by cycle (40_waveform R74): from its acceptance to the DONE it is answered
with, in the cycles in which the host's queue has no reset at its front. -/

namespace Sys2Proof.Machine

section
variable {s t u : State} {levels more : List Bool}

/-- A frame in flight puts these levels on the line, one each cycle, on the way from one state to another; the block is
busy and answers nothing in these cycles (R74). -/
inductive Sends : List Bool → State → State → Prop where
  | nothing (s : State) : Sends [] s s
  | cycle {s t u : State} {levels : List Bool} (hbusy : s.busy = true) (hsilent : s.rspValid = false)
      (hstep : step s = .next t) (hrest : Sends levels t u) : Sends (s.line :: levels) s u

theorem Sends.append (h : Sends levels s t) (h' : Sends more t u) : Sends (levels ++ more) s u := by
  induction h with
  | nothing s => exact h'
  | cycle hbusy hsilent hstep hrest ih => exact .cycle hbusy hsilent hstep (ih h')

/-- What the line shows and the block answers, cycle by cycle, on the way from one state to another. -/
structure Shows (levels : List Bool) (answers : List (BitVec 2 × BitVec 8)) (s t : State) : Prop where
  run : runCycles levels.length s = .next t
  line : trace levels.length s = levels
  answered : responses levels.length s = answers

variable {answers answers' : List (BitVec 2 × BitVec 8)}

theorem Shows.nothing (s : State) : Shows [] [] s s := ⟨rfl, rfl, rfl⟩

theorem Shows.cycle (h : step s = .next t) (hrest : Shows levels answers t u) :
    Shows (s.line :: levels) (s.response.toList ++ answers) s u := by
  obtain ⟨hrun, hline, hanswered⟩ := hrest
  exact ⟨(runCycles_succ_next h _).trans hrun, by rw [List.length_cons, trace_succ h, hline],
    by rw [List.length_cons, responses_succ h, hanswered]⟩

theorem Shows.append (h : Shows levels answers s t) (h' : Shows more answers' t u) :
    Shows (levels ++ more) (answers ++ answers') s u := by
  obtain ⟨hrun, hline, hanswered⟩ := h
  obtain ⟨hrun', hline', hanswered'⟩ := h'
  constructor
  · rw [List.length_append, runCycles_add hrun, hrun']
  · rw [List.length_append, trace_add hrun, hline, hline']
  · rw [List.length_append, responses_add hrun, hanswered, hanswered']

theorem response_of_silent (h : s.rspValid = false) : s.response = none := by
  simp [State.response, h]

theorem Sends.shows (h : Sends levels s t) : Shows levels [] s t := by
  induction h with
  | nothing s => exact .nothing s
  | cycle hbusy hsilent hstep hrest ih => simpa [response_of_silent hsilent] using ih.cycle hstep

/-! The frame in flight, hold by hold. -/

/-- A cycle of a frame that nothing disturbs: no reset in force or about to go on, the line driven, no response, and a
configuration in which every hold lasts. -/
structure State.Undisturbed (s : State) : Prop where
  config : s.legalConfig = true
  noRst : s.rstCycles = 0
  driven : s.doutOe = true
  silent : s.rspValid = false
  noReset : noResetNext s.queue = true

theorem State.Undisturbed.of_keeps (h : s.Undisturbed) (hkeeps : KeepsSurroundings s t) (hrsp : KeepsResponse s t) :
    t.Undisturbed := by
  obtain ⟨⟨-, -, htiming, hinst⟩, ⟨hoe, hrst⟩, hqueue, -⟩ := hkeeps
  obtain ⟨⟨hvalid, -⟩, -⟩ := hrsp
  have hconfig : t.legalConfig = true := by rw [State.legalConfig, htiming, hinst]; exact h.config
  exact ⟨hconfig, hrst.trans h.noRst, hoe.trans h.driven, hvalid.trans h.silent, by rw [hqueue]; exact h.noReset⟩

theorem clearRsp_of_silent (h : s.rspValid = false) : s.clearRsp = s := by
  rw [State.clearRsp, ← h]

/-- The state in the last cycle of the hold that is running. -/
def State.lastCycle (s : State) : State := { s with tmr := 1 }

theorem State.Undisturbed.lastCycle (hs : s.Undisturbed) : s.lastCycle.Undisturbed :=
  ⟨hs.config, hs.noRst, hs.driven, hs.silent, hs.noReset⟩

/-- A hold shows its level in each of its `n` cycles, and leads where its last cycle leads (R73). -/
theorem sends_hold {n : Nat} (hs : s.Undisturbed) (hp : s.phase ≠ .idle) (hn : s.tmr = n) (hpos : 1 ≤ n)
    (hlast : step s.lastCycle = .next t) : Sends (List.replicate n s.dout) s t := by
  have hbusy : s.busy = true := (busy_iff s).mpr hp
  rw [← line_of_driven hs.driven]
  induction n, hpos using Nat.le_induction generalizing s with
  | base =>
    rw [State.lastCycle, ← hn] at hlast
    exact .cycle hbusy hs.silent hlast (.nothing t)
  | succ n hpos ih =>
    have hstep := step_countDown hs.noRst hp hs.noReset (by omega)
    rw [clearRsp_of_silent hs.silent] at hstep
    have hcount : s.countDown.Undisturbed := hs.of_keeps s.countDown_keepsSurroundings s.countDown_keepsResponse
    exact .cycle hbusy hs.silent hstep (ih hcount hp (by rw [State.countDown, hn]; rfl) hlast hbusy)

/-- The last cycle of a hold leads to the end of the phase and no further. -/
theorem State.Undisturbed.hold_lastCycle (hs : s.Undisturbed) {ended : State} (hq : ended.queue = s.queue) :
    (hold s.lastCycle.clearRsp ended).resetTick = ended := by
  rw [hold_ended (Nat.le_refl 1), resetTick_of_noReset (by rw [hq]; exact hs.noReset)]

theorem sends_start (hs : s.Undisturbed) (hp : s.phase = .start) (ht : s.tmr = s.ticks s.timing.startHigh) :
    Sends (List.replicate (s.ticks s.timing.startHigh) s.dout) s (s.enterLow (s.sr.getLsbD 25)) := by
  refine sends_hold hs (by simp [hp]) ht (one_le_startTicks hs.config) ?_
  rw [step_start hs.lastCycle.noRst hp, hs.hold_lastCycle, clearRsp_of_silent hs.lastCycle.silent] <;> rfl

theorem sends_low (hs : s.Undisturbed) (hp : s.phase = .bitLow) (ht : s.tmr = s.ticks (lowUs s.timing (s.sr.getLsbD 25))) :
    Sends (List.replicate (s.ticks (lowUs s.timing (s.sr.getLsbD 25))) s.dout) s (s.enterHigh (s.sr.getLsbD 25)) := by
  refine sends_hold hs (by simp [hp]) ht (one_le_lowTicks hs.config _) ?_
  rw [step_bitLow hs.lastCycle.noRst hp, hs.hold_lastCycle, clearRsp_of_silent hs.lastCycle.silent] <;> rfl

theorem endCell_lastCycle (s : State) : s.lastCycle.endCell = s.endCell := by
  by_cases h : s.bitcnt = 1
  · rw [endCell_last h, endCell_last (s := s.lastCycle) h]; rfl
  · rw [endCell_more h, endCell_more (s := s.lastCycle) h]; rfl

theorem sends_high (hs : s.Undisturbed) (hp : s.phase = .bitHigh)
    (ht : s.tmr = s.ticks (highUs s.timing (s.sr.getLsbD 25))) :
    Sends (List.replicate (s.ticks (highUs s.timing (s.sr.getLsbD 25))) s.dout) s s.endCell := by
  have hqueue : s.lastCycle.clearRsp.endCell.queue = s.queue := by
    obtain ⟨-, -, hqueue, -⟩ := s.lastCycle.clearRsp.endCell_keepsSurroundings
    exact hqueue
  refine sends_hold hs (by simp [hp]) ht (one_le_highTicks hs.config _) ?_
  rw [step_bitHigh hs.lastCycle.noRst hp, hs.hold_lastCycle hqueue, clearRsp_of_silent hs.lastCycle.silent,
    endCell_lastCycle]

theorem sends_quiet (hs : s.Undisturbed) (hp : s.phase = .quiet) (ht : s.tmr = s.ticks s.timing.endLow) :
    Sends (List.replicate (s.ticks s.timing.endLow) s.dout) s s.lastCycle.endFrame := by
  refine sends_hold hs (by simp [hp]) ht (one_le_endTicks hs.config) ?_
  rw [step_quiet hs.lastCycle.noRst hp, hs.hold_lastCycle, clearRsp_of_silent hs.lastCycle.silent]
  rfl

/-! The bit cells. -/

theorem sample_low (k : Nat) (us : BitVec 16) (w : List Segment) :
    sample k (low us :: w) = List.replicate (k * us.toNat) false ++ sample k w :=
  List.flatMap_cons

theorem sample_high (k : Nat) (us : BitVec 16) (w : List Segment) :
    sample k (high us :: w) = List.replicate (k * us.toNat) true ++ sample k w :=
  List.flatMap_cons

theorem sample_append (k : Nat) (v w : List Segment) : sample k (v ++ w) = sample k v ++ sample k w :=
  List.flatMap_append

theorem sample_nil (k : Nat) : sample k [] = [] := rfl

theorem sends_cell (hs : s.Undisturbed) (hp : s.phase = .bitLow) (hd : s.dout = false)
    (ht : s.tmr = s.ticks (lowUs s.timing (s.sr.getLsbD 25))) :
    Sends (sample s.inst.ticksPerUs (cellWave s.timing (s.sr.getLsbD 25))) s
      (s.enterHigh (s.sr.getLsbD 25)).endCell := by
  have hlow := sends_low hs hp ht
  have hs' := hs.of_keeps (s.enterHigh_keepsSurroundings (s.sr.getLsbD 25)) (s.enterHigh_keepsResponse _)
  have hhigh := sends_high hs' rfl rfl
  rw [hd] at hlow
  rw [cellWave, sample_low, sample_high, sample_nil, List.append_nil]
  exact hlow.append hhigh

/-- The next `n` bits to send, first bit first: bits 25 and down of `SR` (R34). -/
def bitsToSend (n : Nat) (sr : FrameBits) : List Bool := (List.range n).map fun j => sr.getLsbD (25 - j)

theorem wireBits_eq_bitsToSend (f : FrameBits) : wireBits f = bitsToSend 26 f := rfl

/-- Of up to 26 bits the first is `SR[25]`, and the others are those to send after a shift. -/
theorem bitsToSend_succ {n : Nat} (hn : n ≤ 25) (sr : FrameBits) :
    bitsToSend (n + 1) sr = sr.getLsbD 25 :: bitsToSend n (sr <<< 1) := by
  unfold bitsToSend
  rw [List.range_succ_eq_map, List.map_cons, List.map_map]
  congr 1
  refine List.map_congr_left fun j hj => ?_
  have hlt : j < n := List.mem_range.mp hj
  rw [BitVec.getLsbD_shiftLeft, decide_eq_true (by omega), decide_eq_false (by omega), Nat.sub_sub]
  rfl

/-- The quiet period entered with every bit left to send shifted out. -/
def State.endCells (s : State) : State := State.enterQuiet { s with sr := s.sr <<< s.bitcnt.toNat, bitcnt := 0 }

theorem endCell_enterHigh_last {b : Bool} (h : s.bitcnt = 1) : (s.enterHigh b).endCell = s.endCells := by
  rw [endCell_last (s := s.enterHigh b) h]
  simp [State.endCells, State.shiftBit, State.enterHigh, State.enterQuiet, State.ticks, h]

theorem endCell_enterHigh_more {b : Bool} (h : s.bitcnt ≠ 1) :
    (s.enterHigh b).endCell = s.shiftBit.enterLow (s.sr.getLsbD 24) :=
  endCell_more (s := s.enterHigh b) h

theorem toNat_bitcnt_sub_one {n : Nat} (h : s.bitcnt.toNat = n + 1) : (s.bitcnt - 1).toNat = n := by
  rw [BitVec.toNat_sub_of_le (BitVec.le_def.mpr (by simp [h])), h]
  rfl

/-- The cells left after one shift end as the cells before it do. -/
theorem endCells_shiftBit {b : Bool} {n : Nat} (h : s.bitcnt.toNat = n + 1) :
    (s.shiftBit.enterLow b).endCells = s.endCells := by
  have hsr : s.sr <<< 1 <<< (s.bitcnt - 1).toNat = s.sr <<< s.bitcnt.toNat := by
    rw [toNat_bitcnt_sub_one h, h, ← BitVec.shiftLeft_add, Nat.add_comm]
  simp only [State.endCells, State.shiftBit, State.enterLow, State.enterQuiet, State.ticks, hsr]

/-- The bit cells of a frame, from the first cycle of one to the first cycle of the quiet period (R72). -/
theorem sends_cells {n : Nat} (hs : s.Undisturbed) (hp : s.phase = .bitLow) (hd : s.dout = false)
    (ht : s.tmr = s.ticks (lowUs s.timing (s.sr.getLsbD 25))) (hcnt : s.bitcnt.toNat = n + 1) (hn : n ≤ 25) :
    Sends (sample s.inst.ticksPerUs ((bitsToSend (n + 1) s.sr).flatMap (cellWave s.timing))) s s.endCells := by
  induction n generalizing s with
  | zero =>
    have hcell := sends_cell hs hp hd ht
    rw [endCell_enterHigh_last (BitVec.eq_of_toNat_eq hcnt)] at hcell
    simpa [bitsToSend] using hcell
  | succ n ih =>
    have hmore : s.bitcnt ≠ 1 := fun h => by simp [h] at hcnt
    have hcell := sends_cell hs hp hd ht
    rw [endCell_enterHigh_more hmore] at hcell
    have hnext : (s.shiftBit.enterLow (s.sr.getLsbD 24)).Undisturbed :=
      ⟨hs.config, hs.noRst, hs.driven, hs.silent, hs.noReset⟩
    have hrest := ih hnext rfl rfl (by simp [State.ticks]) (toNat_bitcnt_sub_one hcnt) (Nat.le_of_succ_le hn)
    rw [endCells_shiftBit hcnt] at hrest
    rw [bitsToSend_succ hn, List.flatMap_cons, sample_append]
    exact hcell.append hrest

/-! The whole frame. -/

/-- The state after a frame: the block idle again with the DONE it owed presented, every bit sent (R72, R81). -/
def State.frameSent (s : State) : State :=
  { s with phase := .idle, sr := 0, bitcnt := 0, tmr := 1, dout := false, rspOwed := false,
           rspValid := true, rspCode := 0, rspData := 0 }

/-- A frame shows its waveform (R74): the start pulse, its 26 cells, the quiet period. -/
theorem sends_frame (hs : s.Undisturbed) (f : FrameBits) :
    Sends (sample s.inst.ticksPerUs (wave s.timing f)) (s.startFrame f) s.frameSent := by
  have hstarted : (s.startFrame f).Undisturbed := ⟨hs.config, hs.noRst, hs.driven, hs.silent, hs.noReset⟩
  have hstart := sends_start hstarted rfl rfl
  have hfirst := hstarted.of_keeps (State.enterLow_keepsSurroundings (f.getLsbD 25) _) (State.enterLow_keepsResponse _ _)
  have hcells := sends_cells (n := 25) hfirst rfl rfl rfl rfl (Nat.le_refl 25)
  have hquiet := sends_quiet (s := ((s.startFrame f).enterLow (f.getLsbD 25)).endCells)
    ⟨hs.config, hs.noRst, hs.driven, hs.silent, hs.noReset⟩ rfl rfl
  have hsent : ((s.startFrame f).enterLow (f.getLsbD 25)).endCells.lastCycle.endFrame = s.frameSent := by
    have hsr : f <<< 26 = 0 := BitVec.shiftLeft_eq_zero (Nat.le_refl 26)
    simp only [State.frameSent, ← hsr]
    rfl
  rw [hsent] at hquiet
  rw [wave, wireBits_eq_bitsToSend, List.cons_append, sample_high, sample_append, sample_low, sample_nil, List.append_nil]
  exact hstart.append (hcells.append hquiet)

end

end Sys2Proof.Machine

/-! Where the fields of a command word stand (30_encoding R50), and the word of a SET_COLOR read back. -/

namespace Sys2Proof.Machine

section
variable (op : BitVec 3) (p : Pos) (i : Intensity) (c : Color)
open BitVec

theorem commandWord_rsv : (commandWord op p i c).getLsbD 31 = false := by
  simp only [commandWord, getLsbD_append]
  rfl

theorem commandWord_opcode : (commandWord op p i c).extractLsb' 28 3 = op := by
  rw [commandWord, extractLsb'_append_eq_of_le (by decide), extractLsb'_append_eq_of_le (by decide),
    extractLsb'_append_eq_of_le (by decide)]
  exact extractLsb'_append_eq_right

theorem commandWord_pos : (commandWord op p i c).extractLsb' 20 8 = p := by
  rw [commandWord, extractLsb'_append_eq_of_le (by decide), extractLsb'_append_eq_of_le (by decide)]
  exact extractLsb'_append_eq_right

theorem commandWord_intensity : (commandWord op p i c).extractLsb' 12 8 = i := by
  rw [commandWord, extractLsb'_append_eq_of_le (by decide)]
  exact extractLsb'_append_eq_right

theorem commandWord_color : (commandWord op p i c).extractLsb' 0 12 = c :=
  extractLsb'_append_eq_right

end

theorem decodeCommand_setColorWord (p : Pos) (i : Intensity) (c : Color) :
    decodeCommand (setColorWord p i c) = .setColor p i c := by
  rw [setColorWord, decodeCommand, commandWord_rsv, commandWord_opcode, commandWord_pos, commandWord_intensity,
    commandWord_color]
  rfl

end Sys2Proof.Machine

/-! SET_COLORs presented one after the other to a block at rest (20_memory R41, 41_frame R84): the line, the answers and
the state they leave (O36). -/

namespace Sys2Proof.Machine

section
variable {s t : State} {levels : List Bool} {answers : List (BitVec 2 × BitVec 8)}

theorem pauseLeft_succ (g : Nat) (q : List HostOp) : pauseLeft (g + 1) q = pauseOps g ++ q := by
  cases g <;> simp [pauseLeft, pauseOps]

theorem noResetNext_pauseOps_append {q : List HostOp} (g : Nat) (hq : noResetNext q = true) :
    noResetNext (pauseOps g ++ q) = true := by
  cases g with
  | zero => exact hq
  | succ g => rfl

theorem State.atRest.line (h : s.atRest) : s.line = false := by
  obtain ⟨-, -, hoe, hdout, -⟩ := h
  rw [line_of_driven hoe, hdout]

theorem State.atRest.step_setColor {p : Pos} {i : Intensity} {c : Color} {q : List HostOp} (h : s.atRest)
    (hq : s.queue = .issue (setColorWord p i c) :: q) (hq' : noResetNext q = true) :
    step s = .next ((s.clearRsp.setQueue q).startFrame (frameOf p i c)) := by
  obtain ⟨hp, hr, -⟩ := h
  have hready : (s.clearRsp.setQueue q).cmdReady = true := (cmdReady_iff _).mpr ⟨hp, hr⟩
  rw [step_issue hr hp hq, decodeCommand_setColorWord]
  calc thenResetTick (atPort (s.clearRsp.setQueue q) ((s.clearRsp.setQueue q).startFrame (frameOf p i c)))
      = .next ((s.clearRsp.setQueue q).startFrame (frameOf p i c)).resetTick := by rw [atPort_ready hready]; rfl
    _ = _ := by rw [resetTick_of_noReset hq']

theorem State.atRest.step_pause {g : Nat} {q : List HostOp} (h : s.atRest) (hq : s.queue = .pause (g + 1) :: q)
    (hq' : noResetNext q = true) : step s = .next (s.clearRsp.setQueue (pauseOps g ++ q)) := by
  obtain ⟨hp, hr, -⟩ := h
  rw [Machine.step_pause hr hp hq, pauseLeft_succ]
  exact congrArg _ (resetTick_of_noReset (noResetNext_pauseOps_append g hq'))

/-- A SET_COLOR behind a gap of `g` cycles: the line is LOW in the gap and in the cycle of the acceptance, and a response
still presented is seen in the first of these (R81, R84). -/
theorem shows_acceptance {g : Nat} {p : Pos} {i : Intensity} {c : Color} {q : List HostOp} (h : s.atRest)
    (hq : s.queue = pauseOps g ++ .issue (setColorWord p i c) :: q) (hq' : noResetNext q = true) :
    Shows (List.replicate (g + 1) false) s.response.toList s ((s.clearRsp.setQueue q).startFrame (frameOf p i c)) := by
  induction g generalizing s with
  | zero => simpa [h.line] using Shows.cycle (h.step_setColor hq hq') (.nothing _)
  | succ g ih =>
    have hrest := ih (s := s.clearRsp.setQueue (pauseOps g ++ .issue (setColorWord p i c) :: q)) h rfl
    have hcycle := Shows.cycle (h.step_pause hq rfl) hrest
    rw [h.line, response_of_silent (s := s.clearRsp.setQueue _) rfl, Option.toList_none, List.append_nil] at hcycle
    exact hcycle

/-- A SET_COLOR the host presents after some idle cycles. -/
abbrev Request := Nat × Pos × Intensity × Color

/-- The host's moves for a request. -/
def Request.moves (o : Request) : List HostOp := pauseOps o.1 ++ [.issue (setColorWord o.2.1 o.2.2.1 o.2.2.2)]

/-- The frame of a request (R47). -/
def Request.frame (o : Request) : FrameBits := frameOf o.2.1 o.2.2.1 o.2.2.2

/-- What the line shows for a request: the gap and the cycle of the acceptance LOW, then the frame (R74, R84). -/
def Request.shown (k : Nat) (t : TimingConfig) (o : Request) : List Bool :=
  List.replicate (o.1 + 1) false ++ sample k (wave t o.frame)

theorem noResetNext_moves (ops : List Request) : noResetNext (ops.flatMap Request.moves) = true := by
  cases ops with
  | nil => rfl
  | cons o ops =>
    rw [List.flatMap_cons, Request.moves, List.append_assoc]
    exact noResetNext_pauseOps_append _ rfl

/-- One request of a block at rest: its DONE is presented behind its frame. -/
theorem shows_request {o : Request} {q : List HostOp} (h : s.atRest) (hq : s.queue = o.moves ++ q)
    (hq' : noResetNext q = true) :
    Shows (o.shown s.inst.ticksPerUs s.timing) s.response.toList s (s.clearRsp.setQueue q).frameSent := by
  rw [Request.moves, List.append_assoc] at hq
  have haccepted := shows_acceptance h hq hq'
  obtain ⟨-, hr, hoe, -, hconfig⟩ := h
  have hsent := (sends_frame (s := s.clearRsp.setQueue q) ⟨hconfig, hr, hoe, rfl, hq'⟩ o.frame).shows
  rw [← List.append_nil s.response.toList]
  exact haccepted.append hsent

/-- Requests one after the other: the frames follow in the order of acceptance, and each is answered DONE once. The last
answer is presented in the state left. -/
theorem shows_requests {ops : List Request} (h : s.atRest) (hq : s.queue = ops.flatMap Request.moves) :
    ∃ answers u, Shows (ops.flatMap (Request.shown s.inst.ticksPerUs s.timing)) answers s u ∧
      answers ++ u.response.toList = s.response.toList ++ List.replicate ops.length (0, 0) ∧ u.atRest ∧ u.queue = [] := by
  induction ops generalizing s with
  | nil => exact ⟨[], s, .nothing s, by simp, h, hq⟩
  | cons o ops ih =>
    rw [List.flatMap_cons] at hq
    have hfirst := shows_request h hq (noResetNext_moves ops)
    obtain ⟨-, hr, hoe, -, hconfig⟩ := h
    obtain ⟨answers, u, hrest, hanswers, hu⟩ :=
      ih (s := (s.clearRsp.setQueue (ops.flatMap Request.moves)).frameSent) ⟨rfl, hr, hoe, rfl, hconfig⟩ rfl
    refine ⟨_, u, hfirst.append hrest, ?_, hu⟩
    rw [List.append_assoc, hanswers]
    rfl

theorem responses_one (s : State) : responses 1 s = s.response.toList := by
  cases hs : step s <;> simp [responses, hs]

theorem Shows.responses_succ (h : Shows levels answers s t) :
    responses (levels.length + 1) s = answers ++ t.response.toList := by
  rw [responses_add h.run, h.answered, responses_one]

theorem length_sample (k : Nat) (w : List Segment) : (sample k w).length = k * totalUs w := by
  induction w with
  | nil => rfl
  | cons g w ih =>
    rw [sample, List.flatMap_cons, List.length_append, List.length_replicate, ← sample, ih, ← Nat.mul_add]
    rfl

theorem Request.length_shown (k : Nat) (t : TimingConfig) (o : Request) :
    (o.shown k t).length = o.1 + 1 + k * frameUs t o.frame := by
  rw [Request.shown, List.length_append, List.length_replicate, length_sample, frameUs]

theorem length_flatMap_shown (k : Nat) (t : TimingConfig) (ops : List Request) :
    (ops.flatMap (Request.shown k t)).length = (ops.map fun o => o.1 + 1 + k * frameUs t o.frame).sum := by
  simp only [List.length_flatMap, Request.length_shown]

end

/-- Settles O36: by induction on the SET_COLORs, each of which shows its gap and its frame from a block at rest and
leaves the block at rest with its DONE presented. -/
theorem framesFollowInAcceptanceOrder : Obligations.FramesFollowInAcceptanceOrder := by
  unfold Obligations.FramesFollowInAcceptanceOrder
  intro ops s hs hsilent hq
  obtain ⟨answers, u, hshows, hanswers, hu⟩ := shows_requests (ops := ops) hs hq
  have hresponses := hshows.responses_succ
  rw [hanswers, response_of_silent hsilent] at hresponses
  obtain ⟨hrun, htrace, -⟩ := hshows
  rw [length_flatMap_shown] at hrun htrace hresponses
  exact ⟨htrace, hresponses, u, hrun, hu⟩

end Sys2Proof.Machine

/-! The fields of a command word (30_encoding R50), the opcode map under its masks (R51) and the round trips of the
encoded forms (O13, O12, O11, O14). -/

namespace Sys2Proof.Machine

section
variable {w : CommandWord} {op : BitVec 3}
open BitVec

/-! A word is bit 31, the opcode and the low 28 bits, and these are the operands side by side (R50). -/

theorem operandlessWord_rsv (op : BitVec 3) (x : BitVec 28) : (operandlessWord op x).getLsbD 31 = false := by
  simp only [operandlessWord, getLsbD_append]
  rfl

theorem operandlessWord_opcode (op : BitVec 3) (x : BitVec 28) : (operandlessWord op x).extractLsb' 28 3 = op := by
  rw [operandlessWord, extractLsb'_append_eq_of_le (by decide)]
  exact extractLsb'_append_eq_right

theorem operandlessWord_low (op : BitVec 3) (x : BitVec 28) : (operandlessWord op x).extractLsb' 0 28 = x :=
  extractLsb'_append_eq_right

theorem commandWord_eq_operandlessWord (op : BitVec 3) (p : Pos) (i : Intensity) (c : Color) :
    commandWord op p i c = operandlessWord op (p ++ i ++ c) :=
  calc commandWord op p i c
      = (0#1 ++ op) ++ (p ++ i) ++ c := congrArg (· ++ c) append_assoc
    _ = operandlessWord op (p ++ i ++ c) := append_assoc

theorem operands_eq_low (w : CommandWord) :
    w.extractLsb' 20 8 ++ w.extractLsb' 12 8 ++ w.extractLsb' 0 12 = w.extractLsb' 0 28 := by
  have hupper : w.extractLsb' 20 8 ++ w.extractLsb' 12 8 = w.extractLsb' 12 16 :=
    extractLsb'_append_extractLsb'_eq_extractLsb' rfl
  rw [hupper]
  exact extractLsb'_append_extractLsb'_eq_extractLsb' rfl

theorem top_of_rsv {b : Bool} (hrsv : w.getLsbD 31 = b) : w.extractLsb' 31 1 = ofBool b := by
  ext j hj
  obtain rfl : j = 0 := by omega
  simp [← hrsv]

theorem top_append_rest {top : BitVec 1} (htop : w.extractLsb' 31 1 = top) : top ++ w.extractLsb' 0 31 = w := by
  rw [← htop]
  exact (extractLsb'_append_extractLsb'_eq_extractLsb' rfl).trans extractLsb'_eq_self

theorem rsvWord_of_fields (hrsv : w.getLsbD 31 = true) : 1#1 ++ w.extractLsb' 0 31 = w :=
  top_append_rest (top_of_rsv hrsv)

theorem operandlessWord_of_fields (hrsv : w.getLsbD 31 = false) (hop : w.extractLsb' 28 3 = op) :
    operandlessWord op (w.extractLsb' 0 28) = w := by
  have hrest : op ++ w.extractLsb' 0 28 = w.extractLsb' 0 31 :=
    hop ▸ extractLsb'_append_extractLsb'_eq_extractLsb' rfl
  have htop : w.extractLsb' 31 1 = 0#1 := top_of_rsv hrsv
  calc operandlessWord op (w.extractLsb' 0 28)
      = 0#1 ++ (op ++ w.extractLsb' 0 28) := append_assoc
    _ = w := by rw [hrest, top_append_rest htop]

/-! The opcode map (R51). -/

/-- The row of the opcode map with this opcode, its operands at their places in the word (R50, R51). -/
def opcodeInstr (w : CommandWord) (op : BitVec 3) : Instr :=
  match op.toNat with
  | 0 => .reservedOp0 (w.extractLsb' 0 28)
  | 1 => .setColor (w.extractLsb' 20 8) (w.extractLsb' 12 8) (w.extractLsb' 0 12)
  | 2 => .setColorIfInRange (w.extractLsb' 20 8) (w.extractLsb' 12 8) (w.extractLsb' 0 12)
  | 3 => .getLightCount (w.extractLsb' 0 28)
  | 4 => .reservedOp4 (w.extractLsb' 0 28)
  | 5 => .reservedOp5 (w.extractLsb' 0 28)
  | 6 => .reservedOp6 (w.extractLsb' 0 28)
  | _ => .reservedOp7 (w.extractLsb' 0 28)

theorem decodeCommand_of_rsv (h : w.getLsbD 31 = true) : decodeCommand w = .reservedRsv1 (w.extractLsb' 0 31) :=
  if_pos h

theorem decodeCommand_of_opcode (hrsv : w.getLsbD 31 = false) (hop : w.extractLsb' 28 3 = op) :
    decodeCommand w = opcodeInstr w op := by
  rw [decodeCommand, hrsv, hop]
  rfl

theorem rsv_of_mask (h : w &&& 0x80000000 = 0x80000000) : w.getLsbD 31 = true := by
  simpa using congrArg (·.getLsbD 31) h

/-- The mask of an opcode row leaves bit 31 and the opcode (R51). -/
theorem decodeCommand_of_mask (h : w &&& 0xF0000000 = operandlessWord op 0) : decodeCommand w = opcodeInstr w op := by
  have hrsv : (w &&& 0xF0000000).getLsbD 31 = false := by rw [h, operandlessWord_rsv]
  have hop : (w &&& 0xF0000000).extractLsb' 28 3 = op := by rw [h, operandlessWord_opcode]
  refine decodeCommand_of_opcode (by simpa using hrsv) ?_
  rw [extractLsb'_and] at hop
  exact (and_allOnes (x := w.extractLsb' 28 3)).symm.trans hop

/-- The encoder gives a row back the word its operands came from. -/
theorem encode_opcodeInstr (w : CommandWord) (op : BitVec 3) :
    encode (opcodeInstr w op) = some (.c32 (operandlessWord op (w.extractLsb' 0 28))) := by
  have hcommand (op : BitVec 3) : commandWord op (w.extractLsb' 20 8) (w.extractLsb' 12 8) (w.extractLsb' 0 12) =
      operandlessWord op (w.extractLsb' 0 28) := by
    rw [commandWord_eq_operandlessWord, operands_eq_low]
  have hop : op = 0 ∨ op = 1 ∨ op = 2 ∨ op = 3 ∨ op = 4 ∨ op = 5 ∨ op = 6 ∨ op = 7 := by decide +revert
  rcases hop with rfl | rfl | rfl | rfl | rfl | rfl | rfl | rfl
  · rfl
  · exact congrArg (some ∘ Code.c32) (hcommand 1)
  · exact congrArg (some ∘ Code.c32) (hcommand 2)
  all_goals rfl

end

/-- Settles O13: a word under its mask is bit 31 and the opcode, and these select the row. -/
theorem opcodeMapUnderMasks : Obligations.OpcodeMapUnderMasks := by
  unfold Obligations.OpcodeMapUnderMasks
  exact fun w => ⟨decodeCommand_of_mask (op := 1), decodeCommand_of_mask (op := 2), decodeCommand_of_mask (op := 3),
    decodeCommand_of_mask (op := 0), decodeCommand_of_mask (op := 4), decodeCommand_of_mask (op := 5),
    decodeCommand_of_mask (op := 6), decodeCommand_of_mask (op := 7), fun h => decodeCommand_of_rsv (rsv_of_mask h)⟩

/-- Settles O12: bit 31 and the other 31 bits are the word again; with bit 31 clear, so are the opcode and the low 28
bits. -/
theorem commandWordRoundTrip : Obligations.CommandWordRoundTrip := by
  unfold Obligations.CommandWordRoundTrip
  intro w
  cases hrsv : w.getLsbD 31 with
  | true => rw [decodeCommand_of_rsv hrsv, encode, rsvWord_of_fields hrsv]
  | false => rw [decodeCommand_of_opcode hrsv rfl, encode_opcodeInstr, operandlessWord_of_fields hrsv rfl]

section
open BitVec

/-- A row with one operand, the low 28 bits, gets it back. -/
theorem decodeCommand_operandlessWord {op : BitVec 3} {x : BitVec 28} {row : BitVec 28 → Instr}
    (hrow : ∀ w, opcodeInstr w op = row (w.extractLsb' 0 28)) : decodeCommand (operandlessWord op x) = row x := by
  rw [decodeCommand_of_opcode (operandlessWord_rsv op x) (operandlessWord_opcode op x), hrow, operandlessWord_low]

theorem decodeCommand_setColorIfInRangeWord (p : Pos) (i : Intensity) (c : Color) :
    decodeCommand (commandWord 2 p i c) = .setColorIfInRange p i c := by
  rw [decodeCommand_of_opcode (commandWord_rsv 2 p i c) (commandWord_opcode 2 p i c)]
  simp only [opcodeInstr, commandWord_pos, commandWord_intensity, commandWord_color]
  rfl

theorem decodeCommand_rsvWord (y : BitVec 31) : decodeCommand (1#1 ++ y) = .reservedRsv1 y := by
  have hrsv : (1#1 ++ y).getLsbD 31 = true := by
    simp only [getLsbD_append]
    rfl
  rw [decodeCommand_of_rsv hrsv]
  exact congrArg _ extractLsb'_append_eq_right

theorem decodeFrame_frameBits (a : BitVec 6) (i : Intensity) (c : Color) : decodeFrame (frameBits a i c) = .frame a i c := by
  have ha : (frameBits a i c).extractLsb' 20 6 = a :=
    (extractLsb'_append_eq_of_le (by decide)).trans extractLsb'_append_eq_left
  have hi : (frameBits a i c).extractLsb' 12 8 = i :=
    (extractLsb'_append_eq_of_le (by decide)).trans extractLsb'_append_eq_right
  have hc : (frameBits a i c).extractLsb' 0 12 = c := extractLsb'_append_eq_right
  rw [decodeFrame, ha, hi, hc]

theorem decodeRsp_append (code : RspCode) (data : BitVec 8) :
    decodeRsp (rspCodeBits code ++ data) = .ok (.rsp code data) := by
  have hcode : (rspCodeBits code ++ data).extractLsb' 8 2 = rspCodeBits code := extractLsb'_append_eq_left
  have hdata : (rspCodeBits code ++ data).extractLsb' 0 8 = data := extractLsb'_append_eq_right
  rw [decodeRsp, hcode, hdata]
  cases code <;> rfl

end

/-- Settles O11: each encoded form is taken apart into the fields it was put together from. -/
theorem decodeOfEncodeIsIdentity : Obligations.DecodeOfEncodeIsIdentity := by
  unfold Obligations.DecodeOfEncodeIsIdentity
  intro i c h
  cases i with
  | setColor p n c => cases h; exact congrArg _ (decodeCommand_setColorWord p n c)
  | setColorIfInRange p n c => cases h; exact congrArg _ (decodeCommand_setColorIfInRangeWord p n c)
  | getLightCount | reservedOp0 | reservedOp4 | reservedOp5 | reservedOp6 | reservedOp7 =>
    cases h
    exact congrArg _ (decodeCommand_operandlessWord fun _ => rfl)
  | reservedRsv1 y => cases h; exact congrArg _ (decodeCommand_rsvWord y)
  | frame a n c => cases h; exact congrArg _ (decodeFrame_frameBits a n c)
  | frameStart | logicOne | logicZero | frameEnd => cases h; rfl
  | rsp code data => cases h; exact decodeRsp_append code data
  | _ => cases h

/-- Settles O14: the decoders evaluated on closed words. -/
theorem specWordsDecode : Obligations.SpecWordsDecode := by
  unfold Obligations.SpecWordsDecode
  decide

end Sys2Proof.Machine

/-! The frame of a position, an intensity and a colour (30_encoding R46, R47) as a number and bit by bit, and the rows
that transmit it (O15, O27). -/

namespace Sys2Proof.Machine

section
variable {n m : Nat}

theorem toNat_append_eq_add (x : BitVec n) (y : BitVec m) : (x ++ y).toNat = x.toNat * 2 ^ m + y.toNat := by
  rw [BitVec.toNat_append, ← Nat.shiftLeft_add_eq_or_of_lt y.isLt, Nat.shiftLeft_eq]

theorem toNat_frameBits (a : BitVec 6) (i : Intensity) (c : Color) :
    (frameBits a i c).toNat = a.toNat * 2 ^ 20 + i.toNat * 2 ^ 12 + c.toNat := by
  rw [frameBits, toNat_append_eq_add, toNat_append_eq_add]
  omega

/-- The bits of a word from the highest down, the order of the wire (R34). -/
def bitsDown (x : BitVec n) : List Bool := (List.range n).map fun j => x.getLsbD (n - 1 - j)

theorem wireBits_eq_bitsDown (f : FrameBits) : wireBits f = bitsDown f := rfl

theorem bitsDown_append (x : BitVec n) (y : BitVec m) : bitsDown (x ++ y) = bitsDown x ++ bitsDown y := by
  rw [bitsDown, List.range_add, List.map_append, List.map_map]
  congr 1
  · refine List.map_congr_left fun j hj => ?_
    have hlt : j < n := List.mem_range.mp hj
    rw [BitVec.getLsbD_append, if_neg (by omega)]
    congr 1
    omega
  · refine List.map_congr_left fun j hj => ?_
    have hlt : j < m := List.mem_range.mp hj
    rw [Function.comp_apply, BitVec.getLsbD_append, if_pos (by omega)]
    congr 1
    omega

/-- The address a position leaves on the wire, bit by bit (R47). -/
theorem bitsDown_address (p : Pos) : bitsDown (p.extractLsb' 0 6) = (List.range 6).map fun j => p.getLsbD (5 - j) := by
  refine List.map_congr_left fun j _ => ?_
  rw [BitVec.getLsbD_extractLsb', decide_eq_true (by omega), Nat.zero_add]
  rfl

end

theorem frameOf_eq_frameBits (p : Pos) (i : Intensity) (c : Color) :
    frameOf p i c = frameBits (p.extractLsb' 0 6) i c := rfl

/-- Settles O15: the three fields stand side by side, the first sent uppermost. -/
theorem frameAssembly : Obligations.FrameAssembly := by
  unfold Obligations.FrameAssembly
  intro p i c
  constructor
  · rw [frameOf_eq_frameBits, toNat_frameBits, BitVec.extractLsb'_toNat, Nat.shiftRight_zero]
  · rw [frameOf, wireBits_eq_bitsDown, bitsDown_append, bitsDown_append, bitsDown_address]
    rfl

/-- Settles O27: FRAME is a transmission of its fields side by side, SET_COLOR of those its position leaves. -/
theorem frameRowTransmits : Obligations.FrameRowTransmits := by
  unfold Obligations.FrameRowTransmits
  constructor
  · intro a i c s hready
    exact ⟨s.startFrame (frameBits a i c), atPort_ready hready _, rfl, toNat_frameBits a i c⟩
  · intro p i c s
    show atPort s (s.startFrame (frameOf p i c)) = atPort s (s.startFrame (frameBits (p.extractLsb' 0 6) i c))
    rw [frameOf_eq_frameBits]

end Sys2Proof.Machine

/-! A frame in slot form (30_encoding R60): its slots as a sampled waveform, and read back as symbols (O16). -/

namespace Sys2Proof.Machine

theorem length_wireBits (f : FrameBits) : (wireBits f).length = 26 := by
  rw [wireBits, List.length_map, List.length_range]

theorem length_flatMap_cellSlots (bits : List Bool) : (bits.flatMap cellSlots).length = 3 * bits.length := by
  induction bits with
  | nil => rfl
  | cons b bits ih => cases b <;> simp [cellSlots, ih] <;> omega

/-! Each slot stands for 10 µs. -/

theorem flatMap_replicate_cellSlots (k : Nat) (b : Bool) :
    (cellSlots b).flatMap (List.replicate (10 * k)) = sample k (cellWave TimingConfig.default b) := by
  have htwo (v : Bool) : List.replicate (k * 20) v = List.replicate (10 * k) v ++ List.replicate (10 * k) v := by
    rw [List.replicate_append_replicate]
    congr 1
    omega
  rw [cellWave, sample_low, sample_high, sample_nil]
  cases b with
  | true =>
    show _ = List.replicate (k * 20) false ++ (List.replicate (k * 10) true ++ [])
    rw [htwo, List.append_assoc, Nat.mul_comm k 10]
    rfl
  | false =>
    show _ = List.replicate (k * 10) false ++ (List.replicate (k * 20) true ++ [])
    rw [htwo, List.append_assoc, Nat.mul_comm k 10]
    rfl

theorem flatMap_replicate_cells (k : Nat) (bits : List Bool) :
    (bits.flatMap cellSlots).flatMap (List.replicate (10 * k)) =
      sample k (bits.flatMap (cellWave TimingConfig.default)) := by
  rw [sample, List.flatMap_assoc, List.flatMap_assoc]
  exact congrArg (bits.flatMap ·) (funext fun b => flatMap_replicate_cellSlots k b)

theorem flatMap_replicate_frameSlots (k : Nat) (f : FrameBits) :
    (frameSlots f).flatMap (List.replicate (10 * k)) = sample k (wave TimingConfig.default f) := by
  have hquiet : [false, false, false].flatMap (List.replicate (10 * k)) = List.replicate (k * 30) false := by
    simp only [List.flatMap_cons, List.flatMap_nil, List.append_nil, List.replicate_append_replicate]
    congr 1
    omega
  rw [frameSlots, List.cons_append, List.flatMap_cons, List.flatMap_append, flatMap_replicate_cells, hquiet, Nat.mul_comm,
    wave, List.cons_append, sample_high, sample_append, sample_low, sample_nil, List.append_nil]
  rfl

/-! The slots read back. -/

theorem decodeSymbol_cellSlots (b : Bool) (rest : List Bool) :
    decodeSymbol (cellSlots b ++ rest) = .ok (if b then .logicOne else .logicZero, rest) := by
  cases b <;> rfl

theorem decodeSymbols_succ {n : Nat} {l rest left : List Bool} {i : Instr} {is : List Instr}
    (h : decodeSymbol l = .ok (i, rest)) (hrest : decodeSymbols n rest = .ok (is, left)) :
    decodeSymbols (n + 1) l = .ok (i :: is, left) := by
  rw [decodeSymbols, h]
  simp only [hrest]

theorem decodeSymbols_cells {n : Nat} {rest left : List Bool} {is : List Instr} (bits : List Bool)
    (h : decodeSymbols n rest = .ok (is, left)) :
    decodeSymbols (n + bits.length) (bits.flatMap cellSlots ++ rest) =
      .ok (bits.map (fun b => if b then .logicOne else .logicZero) ++ is, left) := by
  induction bits with
  | nil => exact h
  | cons b bits ih =>
    rw [List.flatMap_cons, List.append_assoc]
    exact decodeSymbols_succ (decodeSymbol_cellSlots b _) ih

theorem decodeSymbols_frameSlots (f : FrameBits) : decodeSymbols 28 (frameSlots f) = .ok (frameSymbols f, []) := by
  have hquiet : decodeSymbols 1 [false, false, false] = .ok ([.frameEnd], []) := rfl
  have hcells := decodeSymbols_cells (wireBits f) hquiet
  rw [length_wireBits] at hcells
  exact decodeSymbols_succ rfl hcells

/-- Settles O16: slot by slot the start pulse, the 26 cells and the quiet period are their stretches of the waveform, and
symbol by symbol they are taken off the front. -/
theorem slotFormIsTheFrame : Obligations.SlotFormIsTheFrame := by
  unfold Obligations.SlotFormIsTheFrame
  intro f
  refine ⟨?_, fun k => flatMap_replicate_frameSlots k f, ?_, decodeSymbols_frameSlots f⟩
  · rw [frameSlots, List.length_append, List.length_cons, length_flatMap_cellSlots, length_wireBits]
    rfl
  · simp [frameSymbols, length_wireBits]

end Sys2Proof.Machine

/-! What one cycle does with the host's move: a word that matches no row (30_encoding R53), the other moves (log 6, 8,
26, 27), and no move at all (41_frame R81): O24, O18, O28. -/

namespace Sys2Proof.Machine

section
variable {s t : State}

/-- Every row of the opcode map that R53 calls illegal is answered as one. -/
theorem exec_decodeCommand_illegal {w : CommandWord}
    (hw : w.getLsbD 31 = true ∨ (w.extractLsb' 28 3).toNat ∈ [0, 4, 5, 6, 7]) (s : State) :
    exec (decodeCommand w) s = illegalWord s := by
  cases hrsv : w.getLsbD 31 with
  | true => rw [decodeCommand_of_rsv hrsv]; rfl
  | false =>
    have hop : (w.extractLsb' 28 3).toNat ∈ [0, 4, 5, 6, 7] := hw.resolve_left (by rw [hrsv]; decide)
    simp only [List.mem_cons, List.not_mem_nil, or_false] at hop
    rcases hop with hop | hop | hop | hop | hop <;>
      rw [decodeCommand_of_opcode hrsv rfl, opcodeInstr, hop] <;> rfl

/-- A cycle of the idle block in which the host does nothing. -/
theorem step_noMove (hr : s.rstCycles = 0) (hp : s.phase = .idle) (hq : s.queue = []) : step s = .next s.clearRsp :=
  step_of_idles (by rw [activity_idle hr hp, hostActivity, hq])

/-- A cycle of the idle block in which a reset waits or is raised. -/
theorem step_reset {k n : Nat} {q : List HostOp} (hr : s.rstCycles = 0) (hp : s.phase = .idle)
    (hq : s.queue = .reset k n :: q) : step s = .next s.clearRsp.resetTick :=
  step_of_idles (by rw [activity_idle hr hp, hostActivity, hq])

/-- A cycle of the idle block in which the host calls what no caller can (R133). -/
theorem step_call_refused {i : Instr} {q : List HostOp} (hr : s.rstCycles = 0) (hp : s.phase = .idle)
    (hq : s.queue = .call i :: q) (hi : hostCallable i = false) : step s = .refused .privateToBlock := by
  simp [step, activity_idle hr hp, hostActivity, hq, hi]

theorem hold_resetTick_silent {ended : State} (h : KeepsResponse s.clearRsp ended) :
    (hold s.clearRsp ended).resetTick.rspValid = false := by
  obtain ⟨⟨hvalid, -⟩, -⟩ := hold_keepsResponse h
  rw [State.resetTick_rspValid, hvalid, State.clearRsp_rspValid]

/-- A cycle in which the host has no move and no frame ends presents no response (R81). -/
theorem step_silent (hq : s.queue = []) (hp : s.phase ≠ .quiet) (h : step s = .next t) : t.rspValid = false := by
  by_cases hr : s.rstCycles = 0
  · cases hphase : s.phase with
    | idle => rw [step_noMove hr hphase hq] at h; cases h; rfl
    | start => rw [step_start hr hphase] at h; cases h; exact hold_resetTick_silent (State.enterLow_keepsResponse _ _)
    | bitLow => rw [step_bitLow hr hphase] at h; cases h; exact hold_resetTick_silent (State.enterHigh_keepsResponse _ _)
    | bitHigh => rw [step_bitHigh hr hphase] at h; cases h; exact hold_resetTick_silent (State.endCell_keepsResponse _)
    | quiet => exact absurd hphase hp
  · rw [step_of_idles (activity_reset hr)] at h; cases h; rfl

end

/-- Settles O24: the word is decoded to an illegal row, which a ready port answers at once. -/
theorem illegalWordsAnswerIllegal : Obligations.IllegalWordsAnswerIllegal := by
  unfold Obligations.IllegalWordsAnswerIllegal
  refine ⟨fun w q s hready hq hw => ?_, fun x y s => rfl⟩
  obtain ⟨hp, hr⟩ := (cmdReady_iff s).mp hready
  have hready' : (s.clearRsp.setQueue q).cmdReady = true := hready
  rw [step_issue hr hp hq, exec_decodeCommand_illegal hw, illegalWord, atPort_ready hready']
  rfl

/-- Settles O18: one equation for each move of the host and for each reset at the front of its queue. -/
theorem stepRunsHostActions : Obligations.StepRunsHostActions := by
  unfold Obligations.StepRunsHostActions
  refine ⟨fun s q hr hp => ⟨step_noMove hr hp, fun i hq => ?_, fun n hq => step_pause hr hp hq,
    fun k n hq => step_reset hr hp hq⟩, fun s q k n => ⟨resetTick_waits, fun hn hq => ?_, resetTick_of_noReset⟩,
    fun s => rfl⟩
  · cases hi : hostCallable i with
    | true => exact step_call hr hp hq hi
    | false => exact step_call_refused hr hp hq hi
  · have hn : decide (n = 0) = false := decide_eq_false (by omega)
    rw [resetTick_raises hq, State.raiseRst, hn, Bool.and_false]
    rfl

/-- Settles O28: RSP is `respond`; of a cycle without a move of the host only the last one of a frame responds. -/
theorem responseLastsOneCycle : Obligations.ResponseLastsOneCycle := by
  unfold Obligations.ResponseLastsOneCycle
  exact ⟨fun d s => ⟨rfl, rfl, rfl⟩, fun s t hq hp h => step_silent hq hp h⟩

end Sys2Proof.Machine

/-! A transmitting command accepted by a block at rest (40_waveform R74, 41_frame R76, R77): its frame on the line, and
the DONE behind it (O35). -/

namespace Sys2Proof.Machine

section
variable {s t : State} {levels : List Bool} {i : Instr} {f : FrameBits}

/-- A frame in flight is busy and silent in every cycle before the state it leads to. -/
theorem Sends.busy_at {m : Nat} (h : Sends levels s t) (hm : m < levels.length) :
    ∃ u, runCycles m s = .next u ∧ u.busy = true ∧ u.rspValid = false := by
  induction h generalizing m with
  | nothing s => exact absurd hm (Nat.not_lt_zero m)
  | @cycle s t u levels hbusy hsilent hstep hrest ih =>
    cases m with
    | zero => exact ⟨s, rfl, hbusy, hsilent⟩
    | succ m =>
      rw [runCycles_succ_next hstep]
      exact ih (Nat.lt_of_succ_lt_succ hm)

/-- A ready block loads the frame of a transmitting command, in range where the command tests it (R76, R77). -/
theorem exec_transmits (hready : s.cmdReady = true) (h : Transmits s i f) : exec i s = .next (s.startFrame f) := by
  rcases h with ⟨p, n, c, rfl, rfl⟩ | ⟨p, n, c, rfl, hp, rfl⟩
  · exact atPort_ready hready _
  · exact (execSetColorIfInRange_below hp).trans (atPort_ready hready _)

theorem State.atRest.step_transmits {w : CommandWord} {q : List HostOp} (h : s.atRest) (hq : s.queue = .issue w :: q)
    (hq' : noResetNext q = true) (hf : Transmits s (decodeCommand w) f) :
    step s = .next ((s.clearRsp.setQueue q).startFrame f) := by
  obtain ⟨hp, hr, -⟩ := h
  have hready : (s.clearRsp.setQueue q).cmdReady = true := (cmdReady_iff _).mpr ⟨hp, hr⟩
  rw [step_issue hr hp hq, exec_transmits hready hf]
  exact congrArg _ (resetTick_of_noReset hq')

end

/-- Settles O35: the word is accepted as its frame, whose cycles show its waveform and lead to the state with the DONE
presented. -/
theorem acceptedCommandSendsItsWave : Obligations.AcceptedCommandSendsItsWave := by
  unfold Obligations.AcceptedCommandSendsItsWave
  intro s w q f hs hq hq' hf
  have hstep := hs.step_transmits hq hq' hf
  obtain ⟨-, hr, hoe, -, hconfig⟩ := hs
  have hsends := sends_frame (s := s.clearRsp.setQueue q) ⟨hconfig, hr, hoe, rfl, hq'⟩ f
  have hlength : (sample s.inst.ticksPerUs (wave s.timing f)).length = s.inst.ticksPerUs * frameUs s.timing f :=
    length_sample _ _
  obtain ⟨hrun, hline, -⟩ := hsends.shows
  refine ⟨_, hstep, hlength ▸ hline, fun m hm => hsends.busy_at (hlength.symm ▸ hm), _, hlength ▸ hrun, ?_⟩
  have hrest : (s.clearRsp.setQueue q).frameSent.atRest := ⟨rfl, hr, hoe, rfl, hconfig⟩
  exact ⟨hrest, rfl, rfl, rfl, rfl, rfl, rfl, rfl, rfl, rfl, rfl, rfl⟩

end Sys2Proof.Machine

/-! One cycle of each primitive (40_waveform R65 to R68) as the cycle of a frame in flight runs it (O17, O31, O32). -/

namespace Sys2Proof.Machine

section
variable {s : State}

theorem execFrameStart_inPlace (hp : s.phase = .start) :
    execFrameStart s = .next (hold s (s.enterLow (s.sr.getLsbD 25))) := by
  rw [execFrameStart, hp]

theorem execFrameEnd_inPlace (hp : s.phase = .quiet) : execFrameEnd s = .next (hold s s.endFrame) := by
  rw [execFrameEnd, hp]

theorem exec_cell (b : Bool) (s : State) : exec (if b then .logicOne else .logicZero) s = cellCycle b s := by
  cases b <;> rfl

theorem currentSymbol_cell (hp : s.phase = .bitLow ∨ s.phase = .bitHigh) :
    currentSymbol s = some (if s.sr.getLsbD 25 then .logicOne else .logicZero) := by
  rcases hp with hp | hp <;> rw [currentSymbol, hp]

/-- A cell that is not the last: the next one is LOW first, as long as its own bit says (R72). -/
theorem endCell_eq_more (hmore : s.bitcnt ≠ 1) :
    s.endCell = { s with dout := false, sr := s.sr <<< 1, bitcnt := s.bitcnt - 1, phase := .bitLow,
                         tmr := s.ticks (lowUs s.timing (s.sr.getLsbD 24)) } :=
  endCell_more hmore

theorem endCell_eq_last (hlast : s.bitcnt = 1) :
    s.endCell = { s with dout := false, sr := s.sr <<< 1, bitcnt := 0, phase := .quiet,
                         tmr := s.ticks s.timing.endLow } := by
  have hcnt : s.bitcnt - 1 = 0 := by rw [hlast]; rfl
  rw [endCell_last hlast, State.shiftBit, hcnt]
  rfl

end

/-- Settles O17: an idle block runs the word presented, any other block the primitive of its phase. -/
theorem stepRunsDecodedInstruction : Obligations.StepRunsDecodedInstruction := by
  unfold Obligations.StepRunsDecodedInstruction
  refine ⟨fun s w q hr hp hq => step_issue hr hp hq, fun s hr hp => ?_, fun s hr hp => ?_, fun s hr hp => ?_⟩
  · exact step_of_runs (activity_symbol hr (by rw [currentSymbol, hp]))
  · exact step_of_runs (activity_symbol hr (currentSymbol_cell hp))
  · exact step_of_runs (activity_symbol hr (by rw [currentSymbol, hp]))

/-- Settles O31: each is a cycle of a hold, and the end of the hold is the entry into the first cell, or into the idle
block with its DONE. -/
theorem startAndEndCycles : Obligations.StartAndEndCycles := by
  unfold Obligations.StartAndEndCycles
  refine ⟨fun s hp => ?_, fun s hp => ?_⟩
  · have hcycle : exec .frameStart s = .next (hold s (s.enterLow (s.sr.getLsbD 25))) := execFrameStart_inPlace hp
    exact ⟨fun ht => by rw [hcycle, hold_running ht], fun ht => by rw [hcycle, hold_ended ht]; rfl⟩
  · have hcycle : exec .frameEnd s = .next (hold s s.endFrame) := execFrameEnd_inPlace hp
    exact ⟨fun ht => by rw [hcycle, hold_running ht], fun ht => by rw [hcycle, hold_ended ht]; rfl⟩

/-- Settles O32: each part of a cell is a hold; the LOW part ends in the HIGH one, and this in the next cell or in the
quiet period. -/
theorem bitCellCycles : Obligations.BitCellCycles := by
  unfold Obligations.BitCellCycles
  intro b s hb
  rw [exec_cell]
  refine ⟨fun hp => ?_, fun hp => ?_⟩
  · rw [cellCycle_low hb hp]
    exact ⟨fun ht => by rw [hold_running ht], fun ht => by rw [hold_ended ht]; rfl⟩
  · rw [cellCycle_high hb hp]
    refine ⟨fun ht => by rw [hold_running ht], fun ht hlast => ?_, fun ht hmore => ?_⟩
    · rw [hold_ended ht, endCell_eq_last hlast]; rfl
    · rw [hold_ended ht, endCell_eq_more hmore]; rfl

end Sys2Proof.Machine

/-! The waveform of a frame (40_waveform R74): its shape (O39), and as what the pseudocode of its primitives shows
(O40). -/

namespace Sys2Proof.Machine

section
variable {t : TimingConfig}

theorem length_wave (t : TimingConfig) (f : FrameBits) : (wave t f).length = 54 := by
  have hcell (b : Bool) : (cellWave t b).length = 2 := rfl
  simp [wave, List.length_flatMap, hcell, length_wireBits]

/-- Cells behind a HIGH segment and before a LOW one: each is LOW first and HIGH then. -/
theorem normalised_cells (t : TimingConfig) (bits : List Bool) (a e : BitVec 16) :
    normalised (high a :: (bits.flatMap (cellWave t) ++ [low e])) = true := by
  induction bits generalizing a with
  | nil => rfl
  | cons b bits ih =>
    have hrest := ih (highUs t b)
    simpa [cellWave, normalised, high, low] using hrest

/-! Only the first sample of a segment can be an edge. -/

/-- The edges of a level held for at least one sample are those of its first one. -/
theorem risingEdges_replicate {n : Nat} (hn : 1 ≤ n) (before v : Bool) (l : List Bool) :
    risingEdges before (List.replicate n v ++ l) = (if v && !before then 1 else 0) + risingEdges v l := by
  induction n, hn using Nat.le_induction generalizing before with
  | base => rfl
  | succ n hn ih =>
    rw [List.replicate_succ, List.cons_append, risingEdges, ih]
    simp

theorem fallingEdges_replicate {n : Nat} (hn : 1 ≤ n) (before v : Bool) (l : List Bool) :
    fallingEdges before (List.replicate n v ++ l) = (if before && !v then 1 else 0) + fallingEdges v l := by
  induction n, hn using Nat.le_induction generalizing before with
  | base => rfl
  | succ n hn ih =>
    rw [List.replicate_succ, List.cons_append, fallingEdges, ih]
    simp

theorem one_le_samples {k : Nat} {us : BitVec 16} (hk : 1 ≤ k) (hus : us ≠ 0) : 1 ≤ k * us.toNat :=
  Nat.mul_pos hk (Nat.pos_of_ne_zero fun h => hus (BitVec.eq_of_toNat_eq h))

theorem lowUs_ne_zero (ht : t.legal = true) (b : Bool) : lowUs t b ≠ 0 := by
  obtain ⟨-, hone, -, hzero, -⟩ := (timingLegal_iff t).mp ht
  cases b with
  | true => exact hone
  | false => exact hzero

theorem highUs_ne_zero (ht : t.legal = true) (b : Bool) : highUs t b ≠ 0 := by
  obtain ⟨-, -, hone, -, hzero, -⟩ := (timingLegal_iff t).mp ht
  cases b with
  | true => exact hone
  | false => exact hzero

/-- Each cell behind a HIGH line falls once and rises once. -/
theorem edges_cells {k : Nat} (hk : 1 ≤ k) (ht : t.legal = true) (bits : List Bool) (l : List Bool) :
    risingEdges true (sample k (bits.flatMap (cellWave t)) ++ l) = bits.length + risingEdges true l ∧
    fallingEdges true (sample k (bits.flatMap (cellWave t)) ++ l) = bits.length + fallingEdges true l := by
  induction bits with
  | nil => simp [sample_nil]
  | cons b bits ih =>
    obtain ⟨hrising, hfalling⟩ := ih
    have hlow := one_le_samples hk (lowUs_ne_zero ht b)
    have hhigh := one_le_samples hk (highUs_ne_zero ht b)
    rw [List.flatMap_cons, sample_append, cellWave, sample_low, sample_high, sample_nil]
    simp only [List.append_nil, List.append_assoc, risingEdges_replicate hlow, risingEdges_replicate hhigh,
      fallingEdges_replicate hlow, fallingEdges_replicate hhigh, hrising, hfalling, List.length_cons]
    simp
    omega

/-- The start pulse rises, each cell falls and rises, the quiet period falls. -/
theorem edges_wave {k : Nat} (hk : 1 ≤ k) (ht : t.legal = true) (f : FrameBits) :
    risingEdges false (sample k (wave t f)) = 27 ∧ fallingEdges false (sample k (wave t f)) = 27 := by
  obtain ⟨hstart, -, -, -, -, hend⟩ := (timingLegal_iff t).mp ht
  have hquiet := one_le_samples hk hend
  obtain ⟨hrising, hfalling⟩ := edges_cells hk ht (wireBits f) (List.replicate (k * t.endLow.toNat) false ++ [])
  rw [wave, List.cons_append, sample_high, sample_append, sample_low, sample_nil,
    risingEdges_replicate (one_le_samples hk hstart), fallingEdges_replicate (one_le_samples hk hstart), hrising, hfalling,
    risingEdges_replicate hquiet, fallingEdges_replicate hquiet, length_wireBits]
  exact ⟨rfl, rfl⟩

end

/-- Settles O39: the two segments of a cell alternate, and in its samples each stretch of a level is there. -/
theorem waveShape : Obligations.WaveShape := by
  unfold Obligations.WaveShape
  exact fun t f k => ⟨length_wave t f, normalised_cells t (wireBits f) _ _, fun ht hk => edges_wave hk ht f⟩

/-! The pseudocode of the primitives. -/

theorem segmentsOf_append (v : Bool) (es es' : List LineEvent) :
    segmentsOf v (es ++ es') = segmentsOf v es ++ segmentsOf (levelAfter v es) es' := by
  induction es generalizing v with
  | nil => rfl
  | cons e es ih =>
    cases e with
    | drive v' => exact ih v'
    | hold us => exact congrArg _ (ih v)

theorem segmentsOf_cellEvents (t : TimingConfig) (v b : Bool) : segmentsOf v (cellEvents t b) = cellWave t b := by
  cases b <;> rfl

/-- The cells of a frame one after the other, from a line at any level. -/
theorem segmentsOf_cells (t : TimingConfig) (bits : List Bool) (v : Bool) :
    segmentsOf v (bits.flatMap (cellEvents t)) = bits.flatMap (cellWave t) := by
  induction bits generalizing v with
  | nil => rfl
  | cons b bits ih => rw [List.flatMap_cons, segmentsOf_append, segmentsOf_cellEvents, ih, List.flatMap_cons]

theorem segmentsOf_frameEnd (t : TimingConfig) (v : Bool) : segmentsOf v (frameEndEvents t) = [low t.endLow] := rfl

/-- Every primitive drives the line before it holds it, so what it shows does not depend on the level before. -/
theorem segmentsOf_frameEvents (t : TimingConfig) (f : FrameBits) (v : Bool) :
    segmentsOf v (frameEvents t f) = wave t f := by
  rw [frameEvents, segmentsOf_append, segmentsOf_append, segmentsOf_cells, segmentsOf_frameEnd]
  rfl

/-- Settles O40: the four primitives event by event, the frame primitive by primitive. -/
theorem waveIsItsPrimitives : Obligations.WaveIsItsPrimitives := by
  unfold Obligations.WaveIsItsPrimitives
  exact fun t f v => ⟨rfl, rfl, rfl, rfl, rfl, rfl, rfl, rfl, segmentsOf_frameEvents t f v⟩

end Sys2Proof.Machine

/-! Every cycle answers a next state (40_waveform R72), and a host that keeps its duties goes on keeping them
(70_reset R150): O8. -/

namespace Sys2Proof.Machine

section
variable {s t u : State} {i : Instr}

/-! Inside its domain nothing the host can call is refused. -/

theorem atPort_answers (s t : State) : ∃ u, atPort s t = .next u :=
  ⟨_, rfl⟩

theorem requireSpan_answers {n : BitVec 8} (hn : decide (n ≠ 0) = true) (s : State) (ops : List BulkOp) :
    ∃ t, requireSpan n s ops = .next t :=
  ⟨_, if_neg (of_decide_eq_true hn)⟩

theorem giveColor_answers {v : Option Color} (hv : v.isSome = true) (why : Refusal) (s : State) :
    ∃ t, giveColor v why s = .next t := by
  obtain ⟨c, rfl⟩ := Option.isSome_iff_exists.mp hv
  exact ⟨_, rfl⟩

theorem colorFn_isSome (o : ChannelOrder) {r g b : Nat} (hr : r ≤ channelMax) (hg : g ≤ channelMax)
    (hb : b ≤ channelMax) : (colorFn o r g b).isSome = true := by
  simp [colorFn, channelOk, hr, hg, hb]

/-- Every place in a sextant of the hue table has its three channels in range (R113). -/
theorem hueSextant_eq_some {n loc : Nat} (hn : n < 6) (hloc : loc ≤ channelMax) :
    ∃ r g b, hueSextant n loc = some (r, g, b) ∧ r ≤ channelMax ∧ g ≤ channelMax ∧ b ≤ channelMax := by
  have hsub : channelMax - loc ≤ channelMax := Nat.sub_le _ _
  have hzero : 0 ≤ channelMax := Nat.zero_le _
  interval_cases n
  · exact ⟨_, _, _, rfl, hloc, Nat.le_refl _, hzero⟩
  · exact ⟨_, _, _, rfl, Nat.le_refl _, hsub, hzero⟩
  · exact ⟨_, _, _, rfl, Nat.le_refl _, hzero, hloc⟩
  · exact ⟨_, _, _, rfl, hsub, hzero, Nat.le_refl _⟩
  · exact ⟨_, _, _, rfl, hzero, hloc, Nat.le_refl _⟩
  · exact ⟨_, _, _, rfl, hzero, Nat.le_refl _, hsub⟩

/-- A hue below 96 has a colour (R112, R114). -/
theorem colorHueFn_isSome (o : ChannelOrder) {h : BitVec 8} (hh : h.toNat < hueLimit) :
    (colorHueFn o h).isSome = true := by
  have hsextant : (h >>> 4).toNat < 6 := by
    have hlt : h.toNat < 96 := hh
    rw [BitVec.toNat_ushiftRight, Nat.shiftRight_eq_div_pow]
    omega
  have hloc : (h &&& 0xF).toNat ≤ channelMax := by
    rw [BitVec.toNat_and]
    exact Nat.and_le_right
  obtain ⟨r, g, b, hrgb, hr, hg, hb⟩ := hueSextant_eq_some hsextant hloc
  rw [colorHueFn, hueTriple, hrgb]
  exact colorFn_isSome o hr hg hb

/-- An operation a host can call is not refused inside its domain (R150). -/
theorem exec_hostCallable_answers (hi : hostCallable i = true) (hwf : i.wellFormed = true) (s : State) :
    ∃ t, exec i s = .next t := by
  cases i with
  | setColor | setColorIfInRange | getLightCount | reservedOp0 | reservedOp4 | reservedOp5 | reservedOp6 | reservedOp7
  | reservedRsv1 => exact atPort_answers s _
  | fillSequenceColor | fillSequenceColorIntensity | fillSequenceWholeString => exact requireSpan_answers hwf s _
  | color r g b =>
    simp only [Instr.wellFormed, Bool.and_eq_true, decide_eq_true_eq] at hwf
    obtain ⟨⟨hr, hg⟩, hb⟩ := hwf
    exact giveColor_answers (colorFn_isSome _ hr hg hb) _ s
  | colorHue h => exact giveColor_answers (colorHueFn_isSome _ (of_decide_eq_true hwf)) _ s
  | fillRange | fillRandom | enumerate | fadeIn | fadeOut | rainbowColor | maxColor => exact ⟨_, rfl⟩
  | frame | frameStart | logicOne | logicZero | frameEnd | rsp => cases hi

theorem wellFormed_decodeCommand (w : CommandWord) : (decodeCommand w).wellFormed = true := by
  unfold decodeCommand
  split
  · rfl
  · split <;> rfl

/-! Every cycle answers. -/

theorem step_reset_or_busy_answers (h : s.rst = true ∨ s.busy = true) : ∃ t, step s = .next t := by
  by_cases hr : s.rstCycles = 0
  · have hbusy : s.busy = true := h.resolve_left fun hrst => (rst_iff s).mp hrst hr
    cases hp : s.phase with
    | idle => exact absurd hp ((busy_iff s).mp hbusy)
    | start => exact ⟨_, step_start hr hp⟩
    | bitLow => exact ⟨_, step_bitLow hr hp⟩
    | bitHigh => exact ⟨_, step_bitHigh hr hp⟩
    | quiet => exact ⟨_, step_quiet hr hp⟩
  · exact ⟨_, step_of_idles (activity_reset hr)⟩

theorem thenResetTick_answers {o : Out} (h : ∃ t, o = .next t) : ∃ t, thenResetTick o = .next t := by
  obtain ⟨t, rfl⟩ := h
  exact ⟨_, rfl⟩

/-- The host's duties on a call of its queue (R150). -/
theorem hostOpOk_call (h : hostOpOk (.call i) = true) : hostCallable i = true ∧ i.wellFormed = true :=
  Bool.and_eq_true_iff.mp h

theorem step_idle_answers (hr : s.rstCycles = 0) (hp : s.phase = .idle)
    (hcall : ∀ i, s.queue.head? = some (.call i) → hostCallable i = true ∧ i.wellFormed = true) :
    ∃ t, step s = .next t := by
  cases hq : s.queue with
  | nil => exact ⟨_, step_noMove hr hp hq⟩
  | cons op q =>
    cases op with
    | issue w =>
      rw [step_issue hr hp hq]
      exact thenResetTick_answers
        (exec_hostCallable_answers (hostCallable_decodeCommand w) (wellFormed_decodeCommand w) _)
    | pause n => exact ⟨_, step_pause hr hp hq⟩
    | reset k n => exact ⟨_, step_reset hr hp hq⟩
    | call i =>
      obtain ⟨hi, hwf⟩ := hcall i (by rw [hq]; rfl)
      rw [step_call hr hp hq hi]
      exact thenResetTick_answers (exec_hostCallable_answers hi hwf _)

/-! No cycle makes the host neglect its duties. -/

theorem hostOk_iff (s : State) : s.hostOk = true ↔ ∀ op ∈ s.queue, hostOpOk op = true :=
  List.all_eq_true

theorem State.hostOk_head (h : s.hostOk = true) (hi : s.queue.head? = some (.call i)) :
    hostCallable i = true ∧ i.wellFormed = true :=
  hostOpOk_call ((hostOk_iff s).mp h _ (List.mem_of_mem_head? hi))

theorem hostOk_of_queue_eq (h : s.hostOk = true) (hq : t.queue = s.queue) : t.hostOk = true := by
  rwa [State.hostOk, hq]

/-- The host's duties are kept by what it has left after its first move. -/
theorem hostOk_tail {op : HostOp} {q : List HostOp} (h : s.hostOk = true) (hq : s.queue = op :: q) (t : State) :
    (t.setQueue q).hostOk = true :=
  (hostOk_iff _).mpr fun op' hop => (hostOk_iff s).mp h op' (by rw [hq]; exact List.mem_cons_of_mem _ hop)

theorem hostOk_pauseLeft {n : Nat} {q : List HostOp} (h : (s.setQueue q).hostOk = true) :
    (s.setQueue (pauseLeft n q)).hostOk = true := by
  unfold pauseLeft
  split
  · exact h
  · exact Bool.and_eq_true_iff.mpr ⟨rfl, h⟩

theorem hostOk_resetTick (h : s.hostOk = true) : s.resetTick.hostOk = true := by
  rcases resetTick_cases s with heq | ⟨k, n, q, hq, heq⟩ | ⟨n, q, hq, heq⟩ <;> rw [heq]
  · exact h
  · exact Bool.and_eq_true_iff.mpr ⟨rfl, hostOk_tail h hq s⟩
  · exact hostOk_tail h hq s

/-- The moves of a bulk operation are words and pauses. -/
theorem StartsBulk.hostOk (hst : StartsBulk s t) (h : s.hostOk = true) : t.hostOk = true := by
  obtain ⟨draws, ops, rfl⟩ := hst
  refine (hostOk_iff _).mpr fun op hop => ?_
  rcases List.mem_append.mp hop with hop | hop
  · rcases mem_schedule hop with ⟨w, rfl⟩ | ⟨c, rfl⟩ <;> rfl
  · exact (hostOk_iff s).mp h op hop

theorem HostActed.hostOk (hst : HostActed s t) (h : s.hostOk = true) : t.hostOk = true := by
  cases hst with
  | ignored | started | answered | returned => exact h
  | bulk ht => exact ht.hostOk h

/-- The primitive at the frame position leaves the configuration, the pins and the host alone (R11). -/
theorem exec_currentSymbol_keepsSurroundings (hi : currentSymbol s = some i) (h : exec i u = .next t) :
    KeepsSurroundings u t := by
  have hcell (hp : s.phase = .bitLow ∨ s.phase = .bitHigh) : KeepsSurroundings u t := by
    rw [currentSymbol_cell hp, Option.some_inj] at hi
    rw [← hi, exec_cell] at h
    exact cellCycle_keepsSurroundings h
  cases hp : s.phase with
  | idle => rw [currentSymbol, hp] at hi; cases hi
  | start => rw [currentSymbol, hp] at hi; cases hi; exact execFrameStart_keepsSurroundings h
  | bitLow => exact hcell (.inl hp)
  | bitHigh => exact hcell (.inr hp)
  | quiet => rw [currentSymbol, hp] at hi; cases hi; exact execFrameEnd_keepsSurroundings h

theorem step_hostOk (h : s.hostOk = true) (hstep : step s = .next t) : t.hostOk = true := by
  rcases step_cases hstep with ⟨-, rfl⟩ | ⟨-, i, u, hi, hu, rfl⟩ | ⟨-, -, hhost⟩
  · exact h
  · obtain ⟨-, -, hqueue, -⟩ := exec_currentSymbol_keepsSurroundings hi hu
    exact hostOk_resetTick (hostOk_of_queue_eq h hqueue)
  · rcases hhost with ⟨-, rfl⟩ | ⟨w, q, u, hq, hu, rfl⟩ | ⟨n, q, hq, rfl⟩ | ⟨-, rfl⟩ | ⟨i, q, u, hq, hi, hu, rfl⟩
    · exact h
    · have hacted := exec_hostCallable_next (hostCallable_decodeCommand w) hu
      exact hostOk_resetTick (hacted.hostOk (hostOk_tail h hq _))
    · exact hostOk_resetTick (hostOk_pauseLeft (hostOk_tail h hq _))
    · exact hostOk_resetTick (s := s.clearRsp) h
    · exact hostOk_resetTick ((exec_hostCallable_next hi hu).hostOk (hostOk_tail h hq _))

end

/-- Settles O8: a reset and a frame in flight leave the host no say; what it may do to an idle block is not refused, and
adds only words and pauses to its queue. -/
theorem stepIsTotal : Obligations.StepIsTotal := by
  unfold Obligations.StepIsTotal
  refine ⟨fun s h => step_reset_or_busy_answers h, fun s hs => ?_⟩
  have hanswers : ∃ t, step s = .next t := by
    by_cases h : s.rst = true ∨ s.busy = true
    · exact step_reset_or_busy_answers h
    · simp only [not_or, rst_iff, busy_iff, not_not] at h
      obtain ⟨hr, hp⟩ := h
      exact step_idle_answers hr hp fun i => State.hostOk_head hs
  obtain ⟨t, ht⟩ := hanswers
  exact ⟨t, ht, step_hostOk hs ht⟩

end Sys2Proof.Machine

/-! The clock edge of 40_waveform R72 and the acceptance of 41_frame R80, as their pseudocode writes them, against the
step (O19). -/

namespace Sys2Proof.Machine

section
variable {s t : State} {i : Instr} {w : CommandWord}
open BitVec

/-- The host's own fields become these (log 6, 7, 18). -/
def State.setHost (q : List HostOp) (rc : Color) (fi : Nat) (s : State) : State :=
  { s with queue := q, retColor := rc, freeIdx := fi }

theorem KeepsSurroundings.setHost_eq (h : KeepsSurroundings s t) : t.setHost s.queue s.retColor s.freeIdx = t := by
  obtain ⟨-, -, hqueue, hret, hfree⟩ := h
  rw [← hqueue, ← hret, ← hfree]
  rfl

/-! The acceptance. -/

theorem acceptR80_setHost (w : CommandWord) (q : List HostOp) (rc : Color) (fi : Nat) (s : State) :
    acceptR80 w (s.setHost q rc fi) = (acceptR80 w s).setHost q rc fi := by
  unfold acceptR80
  split
  · rfl
  · split
    · rfl
    · show (if w.extractLsb' 28 3 = 2 ∧ s.lightCount.toNat ≤ (w.extractLsb' 20 8).toNat then _ else _) = _
      split <;> rfl

/-- The frame of a command word's fields (R47, R50). -/
theorem frameOf_fields (w : CommandWord) :
    frameOf (w.extractLsb' 20 8) (w.extractLsb' 12 8) (w.extractLsb' 0 12) =
      w.extractLsb' 20 6 ++ w.extractLsb' 12 8 ++ w.extractLsb' 0 12 := by
  have haddress : (w.extractLsb' 20 8).extractLsb' 0 6 = w.extractLsb' 20 6 := by
    ext j hj
    simp
    omega
  rw [frameOf, haddress]

/-- A ready block accepts a word as R80 writes it. -/
theorem exec_decodeCommand_eq_acceptR80 (hready : s.cmdReady = true) (w : CommandWord) :
    exec (decodeCommand w) s = .next (acceptR80 w s) := by
  by_cases hillegal : w.getLsbD 31 = true ∨ (w.extractLsb' 28 3).toNat ∈ [0, 4, 5, 6, 7]
  · rw [exec_decodeCommand_illegal hillegal, illegalWord, atPort_ready hready, acceptR80, if_pos hillegal]
    rfl
  obtain ⟨hrsv, hop⟩ := not_or.mp hillegal
  have hrsv : w.getLsbD 31 = false := Bool.eq_false_of_not_eq_true hrsv
  have hlegal (op : BitVec 3) (h : op.toNat ∉ [0, 4, 5, 6, 7]) : op = 1 ∨ op = 2 ∨ op = 3 := by decide +revert
  rw [acceptR80, if_neg hillegal, ← frameOf_fields]
  rcases hlegal _ hop with hop | hop | hop <;> rw [decodeCommand_of_opcode hrsv hop, hop]
  · exact atPort_ready hready _
  · rw [if_neg (by decide)]
    by_cases hp : (w.extractLsb' 20 8).toNat < s.lightCount.toNat
    · rw [if_neg (by omega)]
      exact (execSetColorIfInRange_below hp).trans (atPort_ready hready _)
    · rw [if_pos ⟨rfl, Nat.not_lt.mp hp⟩]
      exact (execSetColorIfInRange_above hp).trans (atPort_ready hready _)
  · exact atPort_ready hready _

/-! The edge, phase by phase. -/

theorem edgeR72_idle_word (hp : s.phase = .idle) (w : CommandWord) :
    edgeR72 (some w) s = acceptR80 w s.clearRsp := by
  cases s
  cases hp
  rfl

theorem edgeR72_idle_noWord (hp : s.phase = .idle) : edgeR72 none s = s.clearRsp := by
  cases s
  cases hp
  rfl

theorem edgeR72_start (hp : s.phase = .start) (port : Option CommandWord) :
    edgeR72 port s = hold s.clearRsp (s.clearRsp.enterLow (s.sr.getLsbD 25)) := by
  cases s
  cases hp
  rfl

theorem edgeR72_bitLow (hp : s.phase = .bitLow) (port : Option CommandWord) :
    edgeR72 port s = hold s.clearRsp (s.clearRsp.enterHigh (s.sr.getLsbD 25)) := by
  cases s
  cases hp
  rfl

/-- R72 writes the shift as the low bits with a 0 behind them. -/
theorem low_append_zero_eq_shiftLeft (x : BitVec 26) : x.extractLsb' 0 25 ++ 0#1 = x <<< 1 :=
  (shiftLeft_eq_concat_of_lt (x := x) (n := 1) (by decide)).symm

theorem edgeR72_bitHigh (hp : s.phase = .bitHigh) (port : Option CommandWord) :
    edgeR72 port s = hold s.clearRsp s.clearRsp.endCell := by
  cases s
  cases hp
  simp only [edgeR72, low_append_zero_eq_shiftLeft]
  rfl

theorem edgeR72_quiet (hp : s.phase = .quiet) (port : Option CommandWord) :
    edgeR72 port s = hold s.clearRsp s.clearRsp.endFrame := by
  cases s
  cases hp
  rfl

/-- A cycle of a frame in flight is the edge, and leaves the host alone. -/
theorem step_busy_edgeR72 (hr : s.rstCycles = 0) (hp : s.phase ≠ .idle) (port : Option CommandWord) :
    step s = .next ((edgeR72 port s).setHost s.queue s.retColor s.freeIdx).resetTick := by
  have ofHold {ended : State} (hkeeps : KeepsSurroundings s.clearRsp ended) :
      (hold s.clearRsp ended).setHost s.queue s.retColor s.freeIdx = hold s.clearRsp ended :=
    (hold_keepsSurroundings hkeeps).setHost_eq
  cases h : s.phase with
  | idle => exact absurd h hp
  | start => rw [step_start hr h, edgeR72_start h, ofHold (State.enterLow_keepsSurroundings _ _)]
  | bitLow => rw [step_bitLow hr h, edgeR72_bitLow h, ofHold (State.enterHigh_keepsSurroundings _ _)]
  | bitHigh => rw [step_bitHigh hr h, edgeR72_bitHigh h, ofHold (State.endCell_keepsSurroundings _)]
  | quiet => rw [step_quiet hr h, edgeR72_quiet h, ofHold (State.endFrame_keepsSurroundings _)]

/-! A call by name. -/

theorem decodeCommand_of_commandWordOf (h : commandWordOf i = some w) : decodeCommand w = i := by
  have hencode : encode i = some (.c32 w) := by
    unfold commandWordOf at h
    split at h
    · rename_i w' hw'
      cases h
      exact hw'
    · cases h
  have hdecode := decodeOfEncodeIsIdentity i _ hencode
  cases hdecode
  rfl

/-- What the host can call and is no command is a bulk operation or a colour function, which moves its own fields alone
(R90, R119). -/
theorem exec_noCommand (hi : hostCallable i = true) (hw : commandWordOf i = none) (h : exec i s = .next t) :
    ∃ q rc fi, t = s.setHost q rc fi ∧ ∀ k n, .reset k n ∉ s.queue → .reset k n ∉ q := by
  cases i with
  | fillRange | fillRandom | fillSequenceColor | fillSequenceColorIntensity | fillSequenceWholeString | enumerate
  | fadeIn | fadeOut =>
    obtain ⟨draws, ops, rfl⟩ := exec_bulkOperation_next rfl h
    refine ⟨_, _, _, rfl, fun k n hno hmem => ?_⟩
    rcases List.mem_append.mp hmem with hmem | hmem
    · rcases mem_schedule hmem with ⟨w, hw⟩ | ⟨c, hc⟩ <;> contradiction
    · exact hno hmem
  | color | colorHue | rainbowColor | maxColor =>
    obtain ⟨c, rfl⟩ := exec_colorFunction_next rfl h
    exact ⟨_, _, _, rfl, fun k n hno => hno⟩
  | setColor | setColorIfInRange | getLightCount | reservedOp0 | reservedOp4 | reservedOp5 | reservedOp6 | reservedOp7
  | reservedRsv1 => cases hw
  | frame | frameStart | logicOne | logicZero | frameEnd | rsp => cases hi

/-! A cycle of the idle block. -/

/-- A word accepted by an idle block, issued or called by name, is the edge on that word. -/
theorem exec_word_edgeR72 (hr : s.rstCycles = 0) (hp : s.phase = .idle) (w : CommandWord) (q : List HostOp) :
    thenResetTick (exec (decodeCommand w) (s.clearRsp.setQueue q)) =
      .next ((edgeR72 (some w) s).setHost q s.retColor s.freeIdx).resetTick := by
  have hready : (s.clearRsp.setQueue q).cmdReady = true := (cmdReady_iff _).mpr ⟨hp, hr⟩
  rw [exec_decodeCommand_eq_acceptR80 hready, edgeR72_idle_word hp, ← acceptR80_setHost]
  rfl

/-- A queue that has lost at most its first entry, or some of the cycles of a pause there (log 6). -/
def QueueUsed (before after : List HostOp) : Prop :=
  after = before ∨ after = before.tail ∨ ∃ c, after = .pause c :: before.tail

theorem queueUsed_pauseLeft (n : Nat) (q : List HostOp) : QueueUsed (.pause n :: q) (pauseLeft n q) := by
  unfold pauseLeft
  split
  · exact .inr (.inl rfl)
  · exact .inr (.inr ⟨_, rfl⟩)

theorem QueueUsed.noReset {before after : List HostOp} {k n : Nat} (h : QueueUsed before after)
    (hno : .reset k n ∉ before) : .reset k n ∉ after := by
  have htail : .reset k n ∉ before.tail := fun hmem => hno (List.mem_of_mem_tail hmem)
  rcases h with rfl | rfl | ⟨c, rfl⟩
  · exact hno
  · exact htail
  · exact List.not_mem_cons_of_ne_of_not_mem (by simp) htail

/-- A cycle of the idle block without a call is the edge on the word issued, if there is one. -/
theorem step_noCall_edgeR72 (hr : s.rstCycles = 0) (hp : s.phase = .idle)
    (hcall : ∀ i, s.queue.head? ≠ some (.call i)) :
    ∃ q, QueueUsed s.queue q ∧
      step s = .next ((edgeR72 s.cmdPort s).setHost q s.retColor s.freeIdx).resetTick := by
  rw [State.cmdPort]
  cases hq : s.queue with
  | nil =>
    refine ⟨[], .inl rfl, ?_⟩
    rw [step_noMove hr hp hq, edgeR72_idle_noWord hp, resetTick_of_noReset rfl, ← hq]
    rfl
  | cons op q =>
    cases op with
    | issue w => exact ⟨q, .inr (.inl rfl), (step_issue hr hp hq).trans (exec_word_edgeR72 hr hp w q)⟩
    | pause n =>
      refine ⟨pauseLeft n q, queueUsed_pauseLeft n q, ?_⟩
      rw [step_pause hr hp hq, edgeR72_idle_noWord hp]
      rfl
    | reset k n =>
      refine ⟨.reset k n :: q, .inl rfl, ?_⟩
      rw [step_reset hr hp hq, edgeR72_idle_noWord hp, ← hq]
      rfl
    | call i => exact absurd (by rw [hq]; rfl) (hcall i)

/-- A cycle of the idle block with a call is the edge on the word called by name, or without a word where the host calls
its own software. -/
theorem step_call_edgeR72 {q : List HostOp} (hr : s.rstCycles = 0) (hp : s.phase = .idle) (hq : s.queue = .call i :: q)
    (hi : hostCallable i = true) (hwf : i.wellFormed = true) :
    ∃ q' rc fi, step s = .next ((edgeR72 s.cmdPort s).setHost q' rc fi).resetTick ∧
      ∀ k n, .reset k n ∉ q → .reset k n ∉ q' := by
  have hport : s.cmdPort = commandWordOf i := by rw [State.cmdPort, hq]
  rw [hport, step_call hr hp hq hi]
  cases hw : commandWordOf i with
  | some w =>
    rw [← decodeCommand_of_commandWordOf hw]
    exact ⟨q, s.retColor, s.freeIdx, exec_word_edgeR72 hr hp w q, fun k n hno => hno⟩
  | none =>
    obtain ⟨t, ht⟩ := exec_hostCallable_answers hi hwf (s.clearRsp.setQueue q)
    obtain ⟨q', rc, fi, rfl, hno⟩ := exec_noCommand hi hw ht
    refine ⟨q', rc, fi, ?_, hno⟩
    rw [ht, edgeR72_idle_noWord hp]
    rfl

end

/-- Settles O19: a frame in flight follows R72 phase by phase and an accepted word R80 row by row; what else the host
does in an idle cycle moves its own fields alone. -/
theorem clockEdgeIsR72 : Obligations.ClockEdgeIsR72 := by
  unfold Obligations.ClockEdgeIsR72
  intro s hr hcalls
  by_cases hp : s.phase = .idle
  case neg =>
    exact ⟨s.queue, s.retColor, s.freeIdx, step_busy_edgeR72 hr hp _, fun _ => rfl, fun _ => ⟨rfl, rfl, .inl rfl⟩,
      fun k n hno => hno⟩
  by_cases hcall : ∃ i, s.queue.head? = some (.call i)
  · obtain ⟨i, hhead⟩ := hcall
    obtain ⟨q, hq⟩ := List.head?_eq_some_iff.mp hhead
    obtain ⟨hi, hwf⟩ := hcalls hp i hhead
    obtain ⟨q', rc, fi, hstep, hno⟩ := step_call_edgeR72 hr hp hq hi hwf
    refine ⟨q', rc, fi, hstep, absurd hp, fun hnone => absurd hhead (hnone hp i), fun k n hmem => hno k n ?_⟩
    rw [hq] at hmem
    exact List.not_mem_of_not_mem_cons hmem
  · have hnone : ∀ i, s.queue.head? ≠ some (.call i) := not_exists.mp hcall
    obtain ⟨q, hused, hstep⟩ := step_noCall_edgeR72 hr hp hnone
    exact ⟨q, s.retColor, s.freeIdx, hstep, absurd hp, fun _ => ⟨rfl, rfl, hused⟩, fun k n => hused.noReset⟩

end Sys2Proof.Machine

/-! The frame commands (41_frame R76 to R82) at a port that is ready and at one that is not (O21, O22, O23, O25, O26), and
the guarded command beside the unguarded one (O29). -/

namespace Sys2Proof.Machine

section
variable {s : State} {i : Instr}

/-- The rows that run at the command port: the nine command words, and FRAME (R79). -/
def isPortRow : Instr → Bool
  | .setColor _ _ _ => true
  | .setColorIfInRange _ _ _ => true
  | .getLightCount _ => true
  | .reservedOp0 _ => true
  | .reservedOp4 _ => true
  | .reservedOp5 _ => true
  | .reservedOp6 _ => true
  | .reservedOp7 _ => true
  | .reservedRsv1 _ => true
  | .frame _ _ _ => true
  | _ => false

theorem exec_portRow_eq_atPort (hi : isPortRow i = true) (s : State) : ∃ accepted, exec i s = atPort s accepted := by
  cases i with
  | setColor | setColorIfInRange | getLightCount | reservedOp0 | reservedOp4 | reservedOp5 | reservedOp6 | reservedOp7
  | reservedRsv1 | frame => exact ⟨_, rfl⟩
  | _ => cases hi

theorem exec_portRow_notReady (hi : isPortRow i = true) (hready : s.cmdReady = false) : exec i s = .next s := by
  obtain ⟨accepted, h⟩ := exec_portRow_eq_atPort hi s
  exact h.trans (atPort_notReady hready accepted)

/-- The six rows R53 and R82 call illegal. -/
def isIllegalRow : Instr → Bool
  | .reservedOp0 _ => true
  | .reservedOp4 _ => true
  | .reservedOp5 _ => true
  | .reservedOp6 _ => true
  | .reservedOp7 _ => true
  | .reservedRsv1 _ => true
  | _ => false

theorem exec_illegalRow_eq_illegalWord (hi : isIllegalRow i = true) (s : State) : exec i s = illegalWord s := by
  cases i with
  | reservedOp0 | reservedOp4 | reservedOp5 | reservedOp6 | reservedOp7 | reservedRsv1 => rfl
  | _ => cases hi

end

/-- Settles O21: a ready port accepts, and what it accepts is `Transmit` of the command's frame. -/
theorem setColorLoadsFrame : Obligations.SetColorLoadsFrame := by
  unfold Obligations.SetColorLoadsFrame
  intro p i c s hready
  exact atPort_ready hready (s.startFrame (frameOf p i c))

/-- Settles O22: the range test chooses between the answer and the frame, and a ready port accepts either. -/
theorem guardedCommandTestsRange : Obligations.GuardedCommandTestsRange := by
  unfold Obligations.GuardedCommandTestsRange
  intro p i c s hready
  constructor
  · intro hp
    exact (execSetColorIfInRange_above (Nat.not_lt.mpr hp)).trans (atPort_ready hready _)
  · intro hp
    exact (execSetColorIfInRange_below hp).trans (atPort_ready hready _)

/-- Settles O23: a ready port accepts, and what it accepts is the response with the light count. -/
theorem getLightCountAnswers : Obligations.GetLightCountAnswers := by
  unfold Obligations.GetLightCountAnswers
  intro x s hready
  exact atPort_ready hready (s.respond .done s.lightCount)

/-- Settles O25: each of the rows has the meaning of an illegal word, which a ready port answers. -/
theorem illegalRowsComplete : Obligations.IllegalRowsComplete := by
  unfold Obligations.IllegalRowsComplete
  intro x y s hready i hi
  have hillegal : isIllegalRow i = true := List.all_eq_true.mp (by rfl) i hi
  rw [exec_illegalRow_eq_illegalWord hillegal]
  exact atPort_ready hready (s.respond .illegal 0)

/-- Settles O26: each of the rows runs at the port, and a port that is not ready leaves the state as it is. -/
theorem unreadyBlockTakesNoCommand : Obligations.UnreadyBlockTakesNoCommand := by
  unfold Obligations.UnreadyBlockTakesNoCommand
  intro p a i c x y s hready j hj
  have hport : isPortRow j = true := List.all_eq_true.mp (by rfl) j hj
  exact exec_portRow_notReady hport hready

/-- Settles O29: below the light count both commands present the same frame to the port; from it on the guarded one
presents an answer alone. -/
theorem guardedEqualsUnguardedInRange : Obligations.GuardedEqualsUnguardedInRange := by
  unfold Obligations.GuardedEqualsUnguardedInRange
  intro p i c s
  refine ⟨fun hp => execSetColorIfInRange_below hp, fun hp => ?_⟩
  obtain ⟨t, ht⟩ := atPort_answers s (s.respond .outOfRange 0)
  obtain ⟨⟨hconfig, hpins, -⟩, hdata⟩ := onlyAnswers_of_atPort ht
  refine ⟨t, (execSetColorIfInRange_above (Nat.not_lt.mpr hp)).trans ht, hdata, hpins, hconfig, fun hready => ?_⟩
  rw [atPort_ready hready] at ht
  cases ht
  exact ⟨rfl, rfl⟩

end Sys2Proof.Machine

/-! What a run does not depend on: a frame in flight on the host's queue (41_frame R79, 40_waveform R72), and the
unguarded rows on the light count (41_frame R86, 42_bulk R100): O20, O30. -/

namespace Sys2Proof.Machine

section
variable {s t : State} {i : Instr} {lc : BitVec 8}

theorem hold_setHost (q : List HostOp) (rc : Color) (fi : Nat) (s ended : State) :
    hold (s.setHost q rc fi) (ended.setHost q rc fi) = (hold s ended).setHost q rc fi := by
  rcases hold_cases s ended with ⟨ht, h⟩ | ⟨ht, h⟩ <;> rw [h]
  · exact hold_running (s := s.setHost q rc fi) ht _
  · exact hold_ended (s := s.setHost q rc fi) ht _

theorem endCell_setHost (q : List HostOp) (rc : Color) (fi : Nat) (s : State) :
    (s.setHost q rc fi).endCell = s.endCell.setHost q rc fi := by
  by_cases hlast : s.bitcnt = 1
  · rw [endCell_last hlast]
    exact endCell_last (s := s.setHost q rc fi) hlast
  · rw [endCell_more hlast]
    exact endCell_more (s := s.setHost q rc fi) hlast

/-- The edge of a frame in flight reads none of the host's own fields. -/
theorem edgeR72_busy_setHost (hp : s.phase ≠ .idle) (port : Option CommandWord) (q : List HostOp) (rc : Color)
    (fi : Nat) : edgeR72 port (s.setHost q rc fi) = (edgeR72 port s).setHost q rc fi := by
  cases h : s.phase with
  | idle => exact absurd h hp
  | start => rw [edgeR72_start h, edgeR72_start (s := s.setHost q rc fi) h, ← hold_setHost]; rfl
  | bitLow => rw [edgeR72_bitLow h, edgeR72_bitLow (s := s.setHost q rc fi) h, ← hold_setHost]; rfl
  | bitHigh =>
    rw [edgeR72_bitHigh h, edgeR72_bitHigh (s := s.setHost q rc fi) h, ← hold_setHost, ← endCell_setHost]
    rfl
  | quiet => rw [edgeR72_quiet h, edgeR72_quiet (s := s.setHost q rc fi) h, ← hold_setHost]; rfl

/-- A cycle of a frame in flight, whatever the host has in its queue but a reset at the front. -/
theorem step_busy_setHost {q : List HostOp} (hr : s.rstCycles = 0) (hp : s.phase ≠ .idle) (hq : noResetNext q = true) :
    step (s.setHost q s.retColor s.freeIdx) = .next ((edgeR72 none s).setHost q s.retColor s.freeIdx) := by
  rw [step_busy_edgeR72 (s := s.setHost q s.retColor s.freeIdx) hr hp none, edgeR72_busy_setHost hp]
  exact congrArg _ (resetTick_of_noReset hq)

/-- The configured light count becomes this one. -/
def State.setLightCount (lc : BitVec 8) (s : State) : State := { s with lightCount := lc }

theorem atPort_startFrame_setLightCount {f : FrameBits} (h : atPort s (s.startFrame f) = .next t) :
    atPort (s.setLightCount lc) ((s.setLightCount lc).startFrame f) = .next (t.setLightCount lc) := by
  rcases atPort_next h with ⟨hready, rfl⟩ | ⟨hready, rfl⟩
  · exact atPort_ready (s := s.setLightCount lc) hready _
  · exact atPort_notReady (s := t.setLightCount lc) hready _

theorem requireSpan_setLightCount {n : BitVec 8} {ops : List BulkOp} (h : requireSpan n s ops = .next t) :
    requireSpan n (s.setLightCount lc) ops = .next (t.setLightCount lc) := by
  obtain ⟨hn, rfl⟩ := requireSpan_next h
  exact if_neg hn

/-- The rows R86 and R100 call unguarded. -/
def isUnguardedRow : Instr → Bool
  | .setColor _ _ _ => true
  | .frame _ _ _ => true
  | .fillRange _ _ _ _ => true
  | .fillRandom _ _ _ => true
  | .fillSequenceColor _ _ _ _ _ _ => true
  | .fillSequenceColorIntensity _ _ _ _ _ => true
  | .fadeIn _ => true
  | .fadeOut _ => true
  | _ => false

/-- An unguarded row does the same with another light count. -/
theorem exec_unguardedRow_setLightCount (hi : isUnguardedRow i = true) (h : exec i s = .next t) :
    exec i (s.setLightCount lc) = .next (t.setLightCount lc) := by
  cases i with
  | setColor | frame => exact atPort_startFrame_setLightCount h
  | fillRange | fillRandom | fadeIn | fadeOut => cases h; rfl
  | fillSequenceColor | fillSequenceColorIntensity => exact requireSpan_setLightCount h
  | _ => cases hi

end

/-- Settles O20: the step of a frame in flight is the edge of R72 without a word, which does not read the host's fields;
without a reset at its front the queue waits. -/
theorem busyBlockReadsNothing : Obligations.BusyBlockReadsNothing := by
  unfold Obligations.BusyBlockReadsNothing
  intro s q hrst hbusy hs hq
  have hr : s.rstCycles = 0 := by simpa [State.rst] using hrst
  have hp : s.phase ≠ .idle := (busy_iff s).mp hbusy
  exact ⟨_, step_busy_setHost hr hp hs, rfl, step_busy_setHost hr hp hq⟩

/-- Settles O30: a transmission reads the port's readiness alone, and the moves of these bulk operations are computed from
their operands, the block's own parameters and the free values. -/
theorem unguardedRowsIgnoreLightCount : Obligations.UnguardedRowsIgnoreLightCount := by
  unfold Obligations.UnguardedRowsIgnoreLightCount
  intro p b n k a i c q d f g lc s t j hj h
  have hunguarded : isUnguardedRow j = true := List.all_eq_true.mp (by rfl) j hj
  exact exec_unguardedRow_setLightCount hunguarded h

end Sys2Proof.Machine

/-! The length of a frame by its number of ones (41_frame R83): O38. -/

namespace Sys2Proof.Machine

theorem totalUs_append (v w : List Segment) : totalUs (v ++ w) = totalUs v + totalUs w := by
  rw [totalUs, List.map_append, List.sum_append]
  rfl

/-- The cells of some bits: each one and each zero has its own length. -/
theorem totalUs_cells (t : TimingConfig) (bits : List Bool) :
    totalUs (bits.flatMap (cellWave t)) =
      bits.count true * (t.oneLow.toNat + t.oneHigh.toNat) + bits.count false * (t.zeroLow.toNat + t.zeroHigh.toNat) := by
  induction bits with
  | nil => simp [totalUs]
  | cons b bits ih =>
    rw [List.flatMap_cons, totalUs_append, ih]
    cases b with
    | true =>
      have hcell : totalUs (cellWave t true) = t.oneLow.toNat + t.oneHigh.toNat := rfl
      rw [hcell, List.count_cons_self, List.count_cons_of_ne (by decide), Nat.succ_mul]
      omega
    | false =>
      have hcell : totalUs (cellWave t false) = t.zeroLow.toNat + t.zeroHigh.toNat := rfl
      rw [hcell, List.count_cons_self, List.count_cons_of_ne (by decide), Nat.succ_mul]
      omega

theorem onesOf_add_zeros (f : FrameBits) : onesOf f + (wireBits f).count false = 26 := by
  rw [onesOf, List.count_true_add_count_false, length_wireBits]

theorem frameUs_eq (t : TimingConfig) (f : FrameBits) :
    frameUs t f = t.startHigh.toNat + onesOf f * (t.oneLow.toNat + t.oneHigh.toNat) +
      (26 - onesOf f) * (t.zeroLow.toNat + t.zeroHigh.toNat) + t.endLow.toNat := by
  have hzeros : 26 - onesOf f = (wireBits f).count false := by have := onesOf_add_zeros f; omega
  have hstart (w : List Segment) : totalUs (high t.startHigh :: w) = t.startHigh.toNat + totalUs w := rfl
  have hend : totalUs [low t.endLow] = t.endLow.toNat := rfl
  rw [frameUs, wave, totalUs_append, hstart, totalUs_cells, hend, hzeros, onesOf]
  omega

/-- Settles O38: the cells are counted by their bits, 26 in all; at the default timing a one is as long as a zero. -/
theorem frameLengthFormula : Obligations.FrameLengthFormula := by
  unfold Obligations.FrameLengthFormula
  intro t f
  have hones : onesOf f ≤ 26 := by have := onesOf_add_zeros f; omega
  have hdefault : frameUs TimingConfig.default f = 10 + onesOf f * 30 + (26 - onesOf f) * 30 + 30 := frameUs_eq _ f
  exact ⟨frameUs_eq t f, hones, by omega⟩

end Sys2Proof.Machine

/-! A `fillRange` on the line (42_bulk R90, R91): its moves as SET_COLORs presented one after the other, each behind its own
gap (O37). -/

namespace Sys2Proof.Machine

section
variable {s : State} {b n : BitVec 8} {i : Intensity} {c : Color}

theorem sendCount_map_send {α : Type} (l : List α) (p : α → Pos) (i : α → Intensity) (c : α → Color) :
    sendCount (l.map fun x => .send (p x) (i x) (c x)) = l.length := by
  induction l with
  | nil => rfl
  | cons x l ih => rw [List.map_cons, sendCount, ih, List.length_cons]

/-- The moves of a bulk operation without a sleep are those of one request for each frame, each with the next free gap. -/
theorem schedule_sends (k free count : Nat) (p : Nat → Pos) (i : Nat → Intensity) (c : Nat → Color) :
    schedule k free ((List.range count).map fun j => .send (p j) (i j) (c j)) =
      ((List.range count).map fun j => (Config.hostGap (free + j), p j, i j, c j)).flatMap Request.moves := by
  induction count with
  | zero => rfl
  | succ count ih =>
    rw [List.range_succ, List.map_append, List.map_append, List.flatMap_append, schedule_append, ih, sendCount_map_send,
      List.length_range]
    simp [schedule, Request.moves]

/-- The SET_COLORs of a `fillRange` (R91), behind the gaps from this free value on. -/
def fillRangeRequests (free : Nat) (b n : BitVec 8) (i : Intensity) (c : Color) : List Request :=
  (List.range n.toNat).map fun j => (Config.hostGap (free + j), bulbAt b j, i, c)

theorem schedule_fillRangeOps (k free : Nat) (b n : BitVec 8) (i : Intensity) (c : Color) :
    schedule k free (fillRangeOps b n i c) = (fillRangeRequests free b n i c).flatMap Request.moves :=
  schedule_sends k free n.toNat (bulbAt b) (fun _ => i) (fun _ => c)

/-- The state in which the host has called a `fillRange` and has nothing else to do (R90). -/
def State.filling (s : State) (b n : BitVec 8) (i : Intensity) (c : Color) : State :=
  (s.clearRsp.setQueue []).startBulk (fillRangeOps b n i c)

theorem State.filling_queue (s : State) (b n : BitVec 8) (i : Intensity) (c : Color) :
    (s.filling b n i c).queue = (fillRangeRequests s.freeIdx b n i c).flatMap Request.moves := by
  rw [State.filling, State.startBulk_queue, schedule_fillRangeOps]
  exact List.append_nil _

theorem State.atRest.step_fillRange (h : s.atRest) (hq : s.queue = [.call (.fillRange b n i c)]) :
    step s = .next (s.filling b n i c) := by
  obtain ⟨hp, hr, -⟩ := h
  have hnoReset : noResetNext (s.filling b n i c).queue = true := by
    rw [State.filling_queue]
    exact noResetNext_moves _
  rw [step_call hr hp hq rfl]
  exact congrArg _ (resetTick_of_noReset hnoReset)

end

/-- Settles O37: the call takes one LOW cycle and leaves the requests of its range to a block still at rest, which shows
them one after the other. -/
theorem fillRangeReachesTheLine : Obligations.FillRangeReachesTheLine := by
  unfold Obligations.FillRangeReachesTheLine
  intro b n i c s hs hq
  have hfilling : (s.filling b n i c).atRest := hs
  obtain ⟨answers, u, hrest, -, hu⟩ := shows_requests hfilling (s.filling_queue b n i c)
  have hshows := Shows.cycle (hs.step_fillRange hq) hrest
  obtain ⟨hrun, hline, -⟩ := hshows
  rw [List.length_cons, length_flatMap_shown, Nat.add_comm, fillRangeRequests, List.map_map] at hrun hline
  rw [hs.line, List.flatMap_map] at hline
  exact ⟨fun j => Config.hostGap (s.freeIdx + j), hline, u, hrun, hu⟩

end Sys2Proof.Machine

/-! The words of the bulk operations (42_bulk R91 to R96, R99, R101, R103): O44, O45, O46, O47, O48, O49, O50, O53. -/

namespace Sys2Proof.Machine

/-- The words the host presents after it has started a bulk operation with one frame per element of a list. -/
theorem wordsOf_startBulk_sends {α : Type} (l : List α) (p : α → Pos) (i : α → Intensity) (c : α → Color) (s : State) :
    wordsOf (s.startBulk (l.map fun x => .send (p x) (i x) (c x))).queue =
      l.map (fun x => setColorWord (p x) (i x) (c x)) ++ wordsOf s.queue := by
  rw [wordsOf_startBulk, wordsOfOps_map]

/-- In a range that begins at 0 the offset is the position. -/
theorem bulbAt_zero : bulbAt 0 = BitVec.ofNat 8 := by
  funext k
  exact congrArg _ (Nat.zero_add k)

theorem requireSpan_zero (s : State) (ops : List BulkOp) : requireSpan 0 s ops = .refused .spanSizeZero :=
  if_pos rfl

theorem requireSpan_of_ne_zero {n : BitVec 8} (hn : n ≠ 0) (s : State) (ops : List BulkOp) :
    requireSpan n s ops = .next (s.startBulk ops) :=
  if_neg hn

theorem maxColorFn_mem_palette (o : ChannelOrder) (index : Nat) :
    maxColorFn o index ∈ [red, green, blue, cyan, magenta, yellow].map (fun named => named o) := by
  unfold maxColorFn
  split <;> simp

/-- The words of a colour-only `fillSequence` (R93). -/
theorem wordsOf_fillSequenceColorOps (b n : BitVec 8) (q : BitVec 16) (w : BitVec 8) (i : Intensity) (f : Nat → Color)
    (s : State) :
    wordsOf (s.startBulk (fillSequenceColorOps b n q w i f)).queue =
      (List.range n.toNat).reverse.map (fun k => setColorWord (bulbAt b k) i (f (sequenceIndex q w k))) ++
        wordsOf s.queue :=
  wordsOf_startBulk_sends _ _ (fun _ => i) _ s

/-- The words of a colour-and-intensity `fillSequence` (R94). -/
theorem wordsOf_fillSequenceColorIntensityOps (b n : BitVec 8) (q : BitVec 16) (w : BitVec 8)
    (g : Nat → Color × Intensity) (s : State) :
    wordsOf (s.startBulk (fillSequenceColorIntensityOps b n q w g)).queue =
      (List.range n.toNat).reverse.map
        (fun k => setColorWord (bulbAt b k) (g (sequenceIndex q w k)).2 (g (sequenceIndex q w k)).1) ++
        wordsOf s.queue :=
  wordsOf_startBulk_sends _ _ _ _ s

/-- The words of an `enumerate` (R96). -/
theorem wordsOf_enumerateOps (lightCount : BitVec 8) (maxIntensity : Intensity) (r : Bool) (s : State) :
    wordsOf (s.startBulk (enumerateOps lightCount maxIntensity r)).queue =
      (if r then (List.range lightCount.toNat).reverse else List.range lightCount.toNat).map
        (fun a => setColorWord (bulbAt 0 a) maxIntensity black) ++ wordsOf s.queue :=
  wordsOf_startBulk_sends _ _ (fun _ => maxIntensity) (fun _ => black) s

/-- A function given by its value at each index of a list is read back at each of them (R101). -/
theorem lookupEntry_map {α : Type} {other : α} {f : Nat → α} {l : List Nat} {j : Nat} (hj : j ∈ l) :
    lookupEntry other (l.map fun k => (k, f k)) j = f j := by
  induction l with
  | nil => cases hj
  | cons k l ih =>
    rw [List.map_cons, lookupEntry]
    by_cases hk : j = k
    · rw [if_pos hk, hk]
    · rw [if_neg hk]
      exact ih (List.mem_of_ne_of_mem hk hj)

/-- The indices of one call are bounded as R99 says: the largest is read with a span of 1. -/
theorem sequenceIndex_le (q : BitVec 16) (w : BitVec 8) {n : BitVec 8} {k : Nat} (hk : k < n.toNat) :
    sequenceIndex q w k ≤ 65789 :=
  calc sequenceIndex q w k ≤ q.toNat + k := Nat.div_le_self _ _
    _ ≤ 65789 := by have := q.isLt; have := n.isLt; omega

/-- Settles O44: the moves are one frame for each address of the range, put before the old ones. -/
theorem fillRangeIssues : Obligations.FillRangeIssues := by
  unfold Obligations.FillRangeIssues
  intro b n i c s
  exact ⟨s.startBulk (fillRangeOps b n i c), rfl, wordsOf_startBulk_sends _ (bulbAt b) (fun _ => i) (fun _ => c) s⟩

/-- Settles O45: as `fillRange`, and every value of `maxColor` is in the palette, whatever the draw. -/
theorem fillRandomIssues : Obligations.FillRandomIssues := by
  unfold Obligations.FillRandomIssues
  intro b n i s
  refine ⟨_, fun k => maxColorFn s.inst.channelOrder (Config.draw (s.freeIdx + k)), rfl, ?_, fun k => rfl,
    fun k => maxColorFn_mem_palette _ _⟩
  exact wordsOf_startBulk_sends _ (bulbAt b) (fun _ => i) _ (s.tookDraws n.toNat)

/-- Settles O46: the span test refuses 0 alone, and behind it the moves are one frame for each address, descending. -/
theorem fillSequenceColorIssues : Obligations.FillSequenceColorIssues := by
  unfold Obligations.FillSequenceColorIssues
  intro b n q w i f s
  constructor
  · rintro rfl
    exact requireSpan_zero s (fillSequenceColorOps b n q 0 i (applyColorTable f))
  · intro hw
    exact ⟨_, requireSpan_of_ne_zero hw s _, wordsOf_fillSequenceColorOps b n q w i (applyColorTable f) s⟩

/-- Settles O47: as the colour-only form, with the intensity from the function as well. -/
theorem fillSequenceColorIntensityIssues : Obligations.FillSequenceColorIntensityIssues := by
  unfold Obligations.FillSequenceColorIntensityIssues
  intro b n q w g s
  constructor
  · rintro rfl
    exact requireSpan_zero s (fillSequenceColorIntensityOps b n q 0 (applyColorIntensityTable g))
  · intro hw
    exact ⟨_, requireSpan_of_ne_zero hw s _, wordsOf_fillSequenceColorIntensityOps b n q w (applyColorIntensityTable g) s⟩

/-- Settles O48: the whole-string forms have the moves of the per-range forms, whose positions are the offsets where the
range begins at 0. -/
theorem wholeStringIssues : Obligations.WholeStringIssues := by
  unfold Obligations.WholeStringIssues
  intro q w i f g s
  refine ⟨rfl, rfl, fun hw => ⟨_, _, requireSpan_of_ne_zero hw s _, requireSpan_of_ne_zero hw s _, ?_, ?_⟩⟩
  · have hwords := wordsOf_fillSequenceColorOps 0 s.lightCount q w i (applyColorTable f) s
    rw [bulbAt_zero] at hwords
    exact hwords
  · have hwords := wordsOf_fillSequenceColorIntensityOps 0 s.lightCount q w (applyColorIntensityTable g) s
    rw [bulbAt_zero] at hwords
    exact hwords

/-- Settles O49: read backwards, the descending words are the ascending ones. -/
theorem sequenceIndexLaw : Obligations.SequenceIndexLaw := by
  unfold Obligations.SequenceIndexLaw
  intro b n q w i f s t hq h
  obtain ⟨-, rfl⟩ := requireSpan_next h
  have hnone : wordsOf s.queue = [] := by rw [hq]; rfl
  rw [wordsOf_fillSequenceColorOps, hnone, List.append_nil]
  constructor
  · simp
  · intro k hk
    rw [List.map_reverse, List.reverse_reverse, List.getElem?_map, List.getElem?_range hk]
    rfl

/-- Settles O50: the moves are one black frame for each address below the light count, in the direction called for. -/
theorem enumerateIssues : Obligations.EnumerateIssues := by
  unfold Obligations.EnumerateIssues
  intro r s
  have hwords := wordsOf_enumerateOps s.lightCount s.inst.maxIntensity r s
  rw [bulbAt_zero] at hwords
  exact ⟨_, rfl, hwords⟩

/-- Settles O53: the table of the function's values up to the bound; the indices of a call are at most `sequence + k`. -/
theorem tablesRepresentEveryFunction : Obligations.TablesRepresentEveryFunction := by
  unfold Obligations.TablesRepresentEveryFunction
  refine ⟨fun f n => ⟨⟨(List.range (n + 1)).map fun k => (k, f k), f 0⟩, fun j hj => ?_⟩,
    fun g n => ⟨⟨(List.range (n + 1)).map fun k => (k, g k), g 0⟩, fun j hj => ?_⟩,
    fun q w n k hk => sequenceIndex_le q w hk⟩
  · exact lookupEntry_map (List.mem_range.mpr (Nat.lt_succ_of_le hj))
  · exact lookupEntry_map (List.mem_range.mpr (Nat.lt_succ_of_le hj))

end Sys2Proof.Machine

/-! The fades (42_bulk R97, R98): 256 black frames to the broadcast address, and the sleeps between them (O51, O52). -/

namespace Sys2Proof.Machine

section
variable {trailing : Bool} {d : BitVec 16} {last : Nat}

/-- The cycles already passed count for the first word of a queue. -/
theorem le_issuesOf_first {a : Nat} {q : List HostOp} : ∀ e ∈ (issuesOf a q)[0]?, a ≤ e.1 := by
  induction q generalizing a with
  | nil => intro e he; cases he
  | cons op q ih =>
    cases op with
    | issue w => intro e he; cases he; exact Nat.le_refl a
    | pause n => intro e he; exact (Nat.le_add_right a n).trans (ih e he)
    | reset k n => exact ih
    | call i => exact ih

/-- The words of a fade: a sleep presents none. -/
theorem wordsOfOps_fadeSteps (trailing : Bool) (d : BitVec 16) (last : Nat) (l : List Nat) :
    wordsOfOps (l.flatMap (fadeStep trailing d last)) =
      l.map fun i => setColorWord broadcastAddr (BitVec.ofNat 8 i) black := by
  induction l with
  | nil => rfl
  | cons x l ih =>
    rw [List.flatMap_cons, List.map_cons, ← ih, fadeStep]
    split <;> rfl

theorem fadeStep_of_sleeps {i : Nat} (h : i ≠ last ∨ trailing = true) :
    fadeStep trailing d last i = [.send broadcastAddr (BitVec.ofNat 8 i) black, .sleep d.toNat] :=
  congrArg _ (if_pos h)

/-- Where each of some steps of a fade sleeps, the word behind each of them waits for its sleep, whatever follows. -/
theorem fadeSteps_wait {l : List Nat} (hsleeps : ∀ x ∈ l, x ≠ last ∨ trailing = true) (a k free : Nat)
    (ops : List BulkOp) (q : List HostOp) {j : Nat} (hj : j < l.length) :
    ∀ e ∈ (issuesOf a (schedule k free (l.flatMap (fadeStep trailing d last) ++ ops) ++ q))[j + 1]?,
      d.toNat * 1000 * k ≤ e.1 := by
  induction l generalizing a free j with
  | nil => exact absurd hj (Nat.not_lt_zero j)
  | cons x l ih =>
    obtain ⟨hx, hl⟩ := List.forall_mem_cons.mp hsleeps
    simp only [List.flatMap_cons, fadeStep_of_sleeps hx, List.cons_append, List.nil_append, schedule, List.append_assoc,
      issuesOf_pauseOps, issuesOf, List.getElem?_cons_succ, Nat.zero_add]
    cases j with
    | zero => exact le_issuesOf_first
    | succ j => exact ih hl _ _ (Nat.lt_of_succ_lt_succ hj)

/-- A fade waits before every word but its first, and before the word behind its last where the last step sleeps too. -/
theorem fade_waits {init : List Nat} (hlast : last ∉ init) (s : State) {j : Nat} (hj : 1 ≤ j)
    (hj' : j ≤ init.length + 1) (htrailing : j = init.length + 1 → trailing = true) :
    ∀ e ∈ (issuesOf 0 (s.startBulk ((init ++ [last]).flatMap (fadeStep trailing d last))).queue)[j]?,
      d.toNat * 1000 * s.inst.ticksPerUs ≤ e.1 := by
  obtain ⟨j, rfl⟩ := Nat.exists_eq_add_of_le' hj
  rw [State.startBulk_queue]
  by_cases hend : j = init.length
  · have hsleeps : ∀ x ∈ init ++ [last], x ≠ last ∨ trailing = true := fun x _ => .inr (htrailing (congrArg _ hend))
    have hwait := fadeSteps_wait (d := d) hsleeps 0 s.inst.ticksPerUs s.freeIdx [] s.queue (j := j) (by simp [hend])
    rw [List.append_nil] at hwait
    exact hwait
  · have hsleeps : ∀ x ∈ init, x ≠ last ∨ trailing = true := fun x hx => .inl (ne_of_mem_of_not_mem hx hlast)
    rw [List.flatMap_append]
    exact fadeSteps_wait hsleeps 0 s.inst.ticksPerUs s.freeIdx _ s.queue (by omega)

theorem ascending_succ (n : Nat) : ascending (n + 1) = ascending n ++ [n] :=
  List.range_succ

theorem descending_succ (n : Nat) : descending (n + 1) = (descending n).map Nat.succ ++ [0] := by
  rw [descending, List.range_succ_eq_map, List.reverse_cons, ← List.map_reverse, descending]

theorem descending_eq_map (n : Nat) : descending n = (List.range n).map (n - 1 - ·) := by
  rw [descending, List.range_eq_range', List.reverse_range', Nat.zero_add, List.range_eq_range']

end

/-- Settles O51: the last step of the ascending fade is the one of intensity 255. -/
theorem fadeInIssues : Obligations.FadeInIssues := by
  unfold Obligations.FadeInIssues
  intro d s
  refine ⟨s.startBulk (fadeInOps s.inst.fadeTrailingSleep d), rfl, ?_, fun j hj hj' htrailing => ?_⟩
  · rw [wordsOf_startBulk, fadeInOps, wordsOfOps_fadeSteps]
    rfl
  · rw [fadeInOps, ascending_succ 255]
    exact fade_waits (by simp [ascending]) s hj (by simpa [ascending] using hj') (by simpa [ascending] using htrailing)

/-- Settles O52: the last step of the descending fade is the one of intensity 0. -/
theorem fadeOutIssues : Obligations.FadeOutIssues := by
  unfold Obligations.FadeOutIssues
  intro d s
  refine ⟨s.startBulk (fadeOutOps s.inst.fadeTrailingSleep d), rfl, ?_, fun j hj hj' htrailing => ?_⟩
  · rw [wordsOf_startBulk, fadeOutOps, wordsOfOps_fadeSteps, descending_eq_map, List.map_map]
    rfl
  · rw [fadeOutOps, descending_succ 255]
    exact fade_waits (by simp) s hj (by simpa [descending] using hj') (by simpa [descending] using htrailing)

end Sys2Proof.Machine

/-! The colour functions (43_color R110 to R118): packing, unpacking, hue sextants and the two palettes (O54 to O60). -/

namespace Sys2Proof.Machine

/-! ### Packing and unpacking -/

section
variable (o : ChannelOrder) (c : Color) {r g b : Nat}

/-- Channels in range do not overflow the packed word: it is their sum, each at the weight of its nibble (R110). -/
theorem toNat_packColor (hr : r ≤ 15) (hg : g ≤ 15) (hb : b ≤ 15) :
    (packColor o r g b).toNat = r * 16 ^ (nibbles o).1 + g * 16 ^ (nibbles o).2.1 + b * 16 ^ (nibbles o).2.2 := by
  have hlt : r * 16 ^ (nibbles o).1 + g * 16 ^ (nibbles o).2.1 + b * 16 ^ (nibbles o).2.2 < 2 ^ 12 := by
    cases o <;> simp only [nibbles] <;> omega
  exact (BitVec.toNat_ofNat _ 12).trans (Nat.mod_eq_of_lt hlt)

/-- The three channels have three different nibbles, so each is read back from its own (R118). -/
theorem channels_packColor (hr : r ≤ 15) (hg : g ≤ 15) (hb : b ≤ 15) :
    redOf o (packColor o r g b) = r ∧ greenOf o (packColor o r g b) = g ∧ blueOf o (packColor o r g b) = b := by
  simp only [redOf, greenOf, blueOf, channelAt, toNat_packColor o hr hg hb]
  cases o <;> simp only [nibbles] <;> omega

theorem channelAt_le (n : Nat) : channelAt c n ≤ 15 :=
  Nat.le_of_lt_succ (Nat.mod_lt _ (by decide))

theorem toNat_eq_channels : c.toNat = channelAt c 0 + 16 * channelAt c 1 + 256 * channelAt c 2 := by
  have hlt : c.toNat < 4096 := c.isLt
  simp only [channelAt]
  omega

/-- Each nibble holds a channel, so the channels of a colour pack to it again (R118). -/
theorem packColor_channels : packColor o (redOf o c) (greenOf o c) (blueOf o c) = c := by
  apply BitVec.eq_of_toNat_eq
  rw [redOf, greenOf, blueOf, toNat_packColor o (channelAt_le c _) (channelAt_le c _) (channelAt_le c _),
    toNat_eq_channels c]
  cases o <;> simp only [nibbles] <;> omega

/-- A channel is the four bits of its nibble. -/
theorem channelAt_eq_extractLsb' (n : Nat) : channelAt c n = (c.extractLsb' (4 * n) 4).toNat := by
  rw [channelAt, BitVec.extractLsb'_toNat, Nat.shiftRight_eq_div_pow, Nat.pow_mul]

end

/-- Settles O56: the nibbles of the three channels are different and are all three nibbles of the word. -/
theorem colorRoundTrip : Obligations.ColorRoundTrip := by
  unfold Obligations.ColorRoundTrip
  refine fun o => ⟨fun r g b => channels_packColor o, fun c =>
    ⟨channelAt_le c _, channelAt_le c _, channelAt_le c _, packColor_channels o c, ?_⟩⟩
  rintro rfl
  exact ⟨channelAt_eq_extractLsb' c 0, channelAt_eq_extractLsb' c 1, channelAt_eq_extractLsb' c 2⟩

/-! ### `color` -/

section
variable (o : ChannelOrder) {r g b : Nat}

theorem colorFn_of_inRange (hr : r ≤ channelMax) (hg : g ≤ channelMax) (hb : b ≤ channelMax) :
    colorFn o r g b = some (packColor o r g b) := by
  simp [colorFn, channelOk, hr, hg, hb]

theorem colorFn_of_aboveRange (h : channelMax < r ∨ channelMax < g ∨ channelMax < b) : colorFn o r g b = none := by
  rcases h with h | h | h <;> simp [colorFn, channelOk, h]

end

/-- A colour function with a value gives it to the host and does nothing else (R119). -/
theorem giveColor_of_eq_some {v : Option Color} {c : Color} (hv : v = some c) (why : Refusal) (s : State) :
    giveColor v why s = .next { s with retColor := c } := by
  rw [hv]
  rfl

/-- A colour function without a value is refused. -/
theorem giveColor_of_eq_none {v : Option Color} (hv : v = none) (why : Refusal) (s : State) :
    giveColor v why s = .refused why := by
  rw [hv]
  rfl

/-- Settles O54: `color` gives the packed channels, which read back as they were. -/
theorem colorPacksChannels : Obligations.ColorPacksChannels := by
  unfold Obligations.ColorPacksChannels
  intro r g b s hr hg hb
  obtain ⟨hred, hgreen, hblue⟩ := channels_packColor s.inst.channelOrder hr hg hb
  refine ⟨_, giveColor_of_eq_some (colorFn_of_inRange _ hr hg hb) _ s, hred, hgreen, hblue, fun horder => ?_⟩
  rw [toNat_packColor _ hr hg hb, horder]
  simp only [nibbles]
  omega

/-- Settles O55: `color` has no value there. -/
theorem colorAboveRangeIsRefused : Obligations.ColorAboveRangeIsRefused := by
  unfold Obligations.ColorAboveRangeIsRefused
  intro r g b s h
  exact giveColor_of_eq_none (colorFn_of_aboveRange _ h) _ s

/-! ### `colorHue` -/

section
variable (o : ChannelOrder) {h : BitVec 8} {n loc r g b : Nat}

/-- The sextant and the place of a hue are its quotient and remainder by 16 (R112). -/
theorem hueTriple_eq_hueSextant : hueTriple h = hueSextant (h.toNat / 16) (h.toNat % 16) := by
  have hsextant : (h >>> 4).toNat = h.toNat / 16 := by
    rw [BitVec.toNat_ushiftRight, Nat.shiftRight_eq_div_pow]
  have hloc : (h &&& 0xF).toNat = h.toNat % 16 := by
    rw [BitVec.toNat_and]
    exact Nat.and_two_pow_sub_one_eq_mod h.toNat 4
  rw [hueTriple, hsextant, hloc]

/-- The colour of place `loc` in sextant `n` is the triple of the table packed (R112). -/
theorem colorHueFn_of_hueSextant (hh : h.toNat = 16 * n + loc) (hn : n < 6) (hloc : loc ≤ 15)
    (htriple : hueSextant n loc = some (r, g, b)) : colorHueFn o h = some (packColor o r g b) := by
  have hsextant : h.toNat / 16 = n := by omega
  have hplace : h.toNat % 16 = loc := by omega
  obtain ⟨r', g', b', hrgb, hr, hg, hb⟩ := hueSextant_eq_some hn hloc
  cases htriple.symm.trans hrgb
  rw [colorHueFn, hueTriple_eq_hueSextant, hsextant, hplace, htriple]
  exact colorFn_of_inRange o hr hg hb

theorem hueSextant_eq_none (hn : 6 ≤ n) (loc : Nat) : hueSextant n loc = none := by
  obtain ⟨k, rfl⟩ := Nat.exists_eq_add_of_le' hn
  rfl

/-- A hue from 96 on has no colour (R114). -/
theorem colorHueFn_of_outOfRange (hh : 96 ≤ h.toNat) : colorHueFn o h = none := by
  rw [colorHueFn, hueTriple_eq_hueSextant, hueSextant_eq_none (by omega)]

end

/-- Settles O57, sextant by sextant: the place in one is the hue's distance from the sextant's first hue. -/
theorem colorHueTable : Obligations.ColorHueTable := by
  unfold Obligations.ColorHueTable
  intro h s hh
  refine ⟨_, giveColor_of_eq_some ?_ _ s, rfl⟩
  split_ifs
  · exact colorHueFn_of_hueSextant (n := 0) (loc := h.toNat) _ (by omega) (by decide) (by omega) rfl
  · rw [show 31 - h.toNat = 15 - (h.toNat - 16) by omega]
    exact colorHueFn_of_hueSextant (n := 1) _ (by omega) (by decide) (by omega) rfl
  · exact colorHueFn_of_hueSextant (n := 2) _ (by omega) (by decide) (by omega) rfl
  · rw [show 63 - h.toNat = 15 - (h.toNat - 48) by omega]
    exact colorHueFn_of_hueSextant (n := 3) _ (by omega) (by decide) (by omega) rfl
  · exact colorHueFn_of_hueSextant (n := 4) _ (by omega) (by decide) (by omega) rfl
  · rw [show 95 - h.toNat = 15 - (h.toNat - 80) by omega]
    exact colorHueFn_of_hueSextant (n := 5) _ (by omega) (by decide) (by omega) rfl

/-- Settles O58: a hue has a colour exactly below 96. -/
theorem hueOutOfRangeIsRefused : Obligations.HueOutOfRangeIsRefused := by
  unfold Obligations.HueOutOfRangeIsRefused
  intro h s
  have hrefused : 96 ≤ h.toNat → exec (.colorHue h) s = .refused .hueOutOfRange := fun hh =>
    giveColor_of_eq_none (colorHueFn_of_outOfRange _ hh) _ s
  refine ⟨hrefused, fun ⟨t, ht⟩ => ?_, fun hh => ?_⟩
  · by_contra hlt
    rw [hrefused (by omega)] at ht
    cases ht
  · exact giveColor_answers (colorHueFn_isSome _ (Nat.lt_succ_of_le hh)) _ s

/-! ### The two palettes -/

/-- The rainbow's colours in order, read at the index mod 7 (R115). -/
theorem getElem?_rainbow (p : InstanceParams) (n : Nat) :
    [red p.channelOrder, p.colorOrange, yellow p.channelOrder, green p.channelOrder, blue p.channelOrder,
      p.colorIndigo, p.colorViolet][n % 7]? = some (rainbowColorFn p n) := by
  have hlt : n % 7 < 7 := Nat.mod_lt n (by decide)
  rw [rainbowColorFn]
  interval_cases n % 7 <;> rfl

theorem rainbowColorFn_add_period (p : InstanceParams) (n : Nat) : rainbowColorFn p (n + 7) = rainbowColorFn p n := by
  rw [rainbowColorFn, Nat.add_mod_right, rainbowColorFn]

/-- The saturated colours in order, read at the index mod 6 (R116). -/
theorem getElem?_saturated (o : ChannelOrder) (n : Nat) :
    [red o, green o, blue o, cyan o, magenta o, yellow o][n % 6]? = some (maxColorFn o n) := by
  have hlt : n % 6 < 6 := Nat.mod_lt n (by decide)
  rw [maxColorFn]
  interval_cases n % 6 <;> rfl

theorem maxColorFn_add_period (o : ChannelOrder) (n : Nat) : maxColorFn o (n + 6) = maxColorFn o n := by
  rw [maxColorFn, Nat.add_mod_right, maxColorFn]

/-- Settles O59: the call gives the entry of its index, which 7 more do not change mod 7. -/
theorem rainbowColorTable : Obligations.RainbowColorTable := by
  unfold Obligations.RainbowColorTable
  intro n s
  refine ⟨⟨_, getElem?_rainbow s.inst n, rfl⟩, ?_⟩
  exact congrArg (fun c => Host.Outcome.next (s.returnColor c)) (rainbowColorFn_add_period s.inst n)

/-- Settles O60: the call gives the entry of its index, which 6 more do not change mod 6. -/
theorem maxColorTable : Obligations.MaxColorTable := by
  unfold Obligations.MaxColorTable
  intro n s
  refine ⟨⟨_, getElem?_saturated s.inst.channelOrder n, rfl⟩, ?_⟩
  exact congrArg (fun c => Host.Outcome.next (s.returnColor c)) (maxColorFn_add_period s.inst.channelOrder n)

end Sys2Proof.Machine

/-! The edge under reset (70_reset R145, R146, R158, R161), in force or raised by the host in any cycle before: O3. -/

namespace Sys2Proof.Machine

section
variable {s u : State} {n : Nat} {q : List HostOp}

/-- A cycle under reset is the reset edge, whatever is in flight or presented (R130). -/
theorem step_underReset (hr : s.rstCycles ≠ 0) : step s = .next s.resetEdge :=
  step_of_idles (activity_reset hr)

/-- The cycle a reset has waited for: `rst` is raised and the line released at its end, and the cycle after it gives the
reset values, whatever the first one did (R145, R158). -/
theorem step_raisesReset (hstep : step s = .next u.resetTick) (hq : u.queue = .reset 0 n :: q) (hn : 1 ≤ n) :
    ∃ t v, step s = .next t ∧ t.rst = true ∧ t.doutOe = false ∧ t.queue = q ∧ step t = .next v ∧
      v.busy = false ∧ v.dout = false ∧ v.rspValid = false ∧ v.rspOwed = false := by
  have hn' : n ≠ 0 := Nat.ne_of_gt hn
  rw [resetTick_raises hq] at hstep
  have hrst : ((u.setQueue q).raiseRst n).rst = true := (rst_iff _).mpr hn'
  exact ⟨_, _, hstep, hrst, by simp [hn'], rfl, step_underReset hn', rfl, rfl, rfl, rfl⟩

end

/-- Settles O3: under reset the step is the reset edge; a frame in flight and an accepted word leave the queue behind
them alone, so that the reset at its front is raised at the end of the cycle. -/
theorem resetOverridesEverything : Obligations.ResetOverridesEverything := by
  unfold Obligations.ResetOverridesEverything
  refine ⟨fun s hr => ?_, fun s n q hr hbusy hn hq => ?_, fun s w n q hready hn hq => ?_⟩
  · have hreleased : s.resetEdge.doutOe = true ↔ s.rstCycles = 1 := by
      rw [State.resetEdge_doutOe, decide_eq_true_eq]
      omega
    exact ⟨_, step_underReset hr, rfl, rfl, rfl, rfl, rfl, rfl, rfl, rfl, rfl, hreleased, rfl, ⟨rfl, rfl, rfl, rfl⟩,
      rfl, rfl⟩
  · have hstep := step_busy_edgeR72 hr ((busy_iff s).mp hbusy) none
    obtain ⟨t, v, ht, -, hcut⟩ := step_raisesReset hstep hq hn
    exact ⟨t, v, ht, hcut⟩
  · obtain ⟨hp, hr⟩ := (cmdReady_iff s).mp hready
    have hstep := (step_issue hr hp hq).trans (exec_word_edgeR72 hr hp w _)
    exact step_raisesReset hstep rfl hn

end Sys2Proof.Machine

/-! A host that presents nothing (41_frame R84, 70_reset R147): O4. -/

namespace Sys2Proof.Machine

section
variable {s t u : State}

theorem SameConfig.trans (h : SameConfig s t) (h' : SameConfig t u) : SameConfig s u := by
  obtain ⟨hlight, hline, htiming, hinst⟩ := h
  obtain ⟨hlight', hline', htiming', hinst'⟩ := h'
  exact ⟨hlight'.trans hlight, hline'.trans hline, htiming'.trans htiming, hinst'.trans hinst⟩

/-- The host lets cycles pass and does nothing else. -/
def OnlyPauses (q : List HostOp) : Prop := ∀ op ∈ q, ∃ c, op = .pause c

theorem OnlyPauses.noResetNext {q : List HostOp} (h : OnlyPauses q) : noResetNext q = true :=
  noResetNext_of_mem fun k n hmem => by obtain ⟨c, hc⟩ := h _ hmem; cases hc

theorem onlyPauses_pauseLeft {n : Nat} {q : List HostOp} (h : OnlyPauses q) : OnlyPauses (pauseLeft n q) := by
  unfold pauseLeft
  split
  · exact h
  · exact List.forall_mem_cons.mpr ⟨⟨_, rfl⟩, h⟩

/-- The idle block out of reset that drives the line LOW, presents no response and whose host presents nothing. -/
structure State.Quiet (s : State) : Prop where
  idle : s.phase = .idle
  noRst : s.rstCycles = 0
  driven : s.doutOe = true
  low : s.dout = false
  silent : s.rspValid = false
  pauses : OnlyPauses s.queue

theorem State.Quiet.line (h : s.Quiet) : s.line = false :=
  (line_of_driven h.driven).trans h.low

/-- The quiet block stays quiet: a cycle moves nothing but the host's pause. -/
theorem State.Quiet.step_next (h : s.Quiet) : ∃ t, step s = .next t ∧ t.Quiet := by
  have hpauses := h.pauses
  cases hq : s.queue with
  | nil => exact ⟨_, step_noMove h.noRst h.idle hq, ⟨h.idle, h.noRst, h.driven, h.low, rfl, hpauses⟩⟩
  | cons op q =>
    rw [hq] at hpauses
    obtain ⟨⟨c, rfl⟩, hrest⟩ := List.forall_mem_cons.mp hpauses
    have hleft : OnlyPauses (pauseLeft c q) := onlyPauses_pauseLeft hrest
    have hstep := step_pause h.noRst h.idle hq
    rw [resetTick_of_noReset hleft.noResetNext] at hstep
    exact ⟨_, hstep, ⟨h.idle, h.noRst, h.driven, h.low, rfl, hleft⟩⟩

/-- The quiet block shows a LOW line and no response, for as long as one looks (R84, R147). -/
theorem State.Quiet.shows (h : s.Quiet) (n : Nat) :
    ∃ t, Shows (List.replicate n false) [] s t ∧ t.Quiet ∧ SameConfig s t := by
  induction n generalizing s with
  | zero => exact ⟨s, .nothing s, h, rfl, rfl, rfl, rfl⟩
  | succ n ih =>
    obtain ⟨t, hstep, ht⟩ := h.step_next
    obtain ⟨u, hshows, hu, hconfig⟩ := ih ht
    have hcycle := hshows.cycle hstep
    rw [h.line, response_of_silent h.silent] at hcycle
    exact ⟨u, hcycle, hu, (step_sameConfig hstep).trans hconfig⟩

end

/-- Settles O4: by induction on the cycles, each of which leaves the quiet block quiet. -/
theorem silentHostKeepsLineLow : Obligations.SilentHostKeepsLineLow := by
  unfold Obligations.SilentHostKeepsLineLow
  intro n s hp hr hoe hdout hsilent hpauses
  have hquiet : s.Quiet := ⟨hp, hr, hoe, hdout, hsilent, hpauses⟩
  obtain ⟨t, ⟨hrun, htrace, -⟩, ht, hconfig⟩ := hquiet.shows n
  rw [List.length_replicate] at hrun htrace
  have hbusy : t.busy = false := by simp [State.busy, ht.idle]
  exact ⟨htrace, t, hrun, hbusy, (cmdReady_iff t).mpr ⟨ht.idle, ht.noRst⟩, ht.silent, hconfig⟩

end Sys2Proof.Machine
